-- ==== Sys2Proof/Word.lean ====
section
/-! DEFINITION. The word types of the control link and of the audio path, and the fixed-size table that holds the
numbered records of the part (ports, slots, groups, sources, presets). Plain data and its plainest accessors only. -/

namespace Sys2Proof

/-- One byte of a link frame or of an auxiliary bus transaction (R177, R163). -/
abbrev Byte := BitVec 8

/-- A two-byte body field (R194: u16 or s16, little-endian on the control link). -/
abbrev Word16 := BitVec 16

/-- A four-byte body field (R194: u32). -/
abbrev Word32 := BitVec 32

/-- A 24-bit two's complement audio sample (00_scope, Audio). -/
abbrev Sample := BitVec 24

/-- A table of exactly `n` records. The number of a record in the spec is its index here plus 1 (ports 1 to 10,
slots 1 to 12, groups 1 to 6, sources 1 to 12, presets 1 to 30); lanes and source channels are numbered from 0. -/
structure Table (α : Type) (n : Nat) where
  items : List α
  size : items.length = n
  deriving DecidableEq, Repr

namespace Table

variable {α β : Type} {n : Nat}

/-- The record at an index. -/
def get (t : Table α n) (i : Fin n) : α := t.items[i.1]'(by rw [t.size]; exact i.2)

/-- The table with one record replaced. -/
def set (t : Table α n) (i : Fin n) (x : α) : Table α n := ⟨t.items.set i.1 x, by simp [t.size]⟩

/-- The table whose record at `i` is `f i`. -/
def tabulate (f : Fin n → α) : Table α n := ⟨List.ofFn f, by simp⟩

/-- The table with the same record at every index. -/
def fill (n : Nat) (x : α) : Table α n := ⟨List.replicate n x, by simp⟩

/-- The table with every record changed by `f`, which also sees the index. -/
def mapIdx (f : Fin n → α → β) (t : Table α n) : Table β n := tabulate fun i => f i (t.get i)

/-- The table with one record changed by `f`. -/
def modify (t : Table α n) (i : Fin n) (f : α → α) : Table α n := t.set i (f (t.get i))

end Table

end Sys2Proof
end

