-- ==== Sys2Proof/Syntax.lean ====
section
/-! DEFINITION. The commands of the part: one constructor of `Instr` for each row of spec/opcode_table.json. A request
row carries the tag and the body fields of its link frame (R195), in their wire sizes; an event row carries what the
event samples from outside the part (line levels, counts, audio, the partner's answer on the auxiliary bus). -/

namespace Sys2Proof

/-- The two routes (section 2.2; route codes MAIN 0, ZONE 1). -/
inductive RouteId where
  | main
  | zone
  deriving DecidableEq, Repr

/-- Which hard reset it is (R184: POWER at power-up, PIN at the RESET pin). -/
inductive HardCause where
  | power
  | pin
  deriving DecidableEq, Repr

/-- The line that a STUCK detection found held low (R170). -/
inductive StuckLine where
  | dataLow
  | clockLow
  deriving DecidableEq, Repr

/-- One frame that a D or S port delivers, its samples in port channel order (R24, R39). -/
structure PortFrame where
  port : Fin 10
  samples : List Sample
  deriving DecidableEq, Repr

/-- How the partners answered the transaction that ends (R165, R166). `done` carries the bytes the controller read; a NACK of
the address is one of the address in read direction when `reading` holds, else in write direction. -/
inductive BusAnswer where
  | done (bytes : List Byte)
  | nackAddr (reading : Bool)
  | nackData (index : Nat)
  deriving DecidableEq, Repr

/-- What the controller saw in a recovery (R171): the data line after each pulse it gave, whether the clock line was
held low beyond 25 ms, and both lines after the stop. -/
structure RecoveryLines where
  dataAfterPulse : List Bool
  clockHeld : Bool
  dataHigh : Bool
  clockHigh : Bool
  deriving DecidableEq, Repr

/-- The 19 bytes of a source record on the wire (R197). -/
structure RawSource where
  enabled : Byte
  port : Byte
  first : Byte
  count : Byte
  layout : List Byte
  trim : Word16
  lipsync : Word16
  tunerBound : Byte
  swap : Byte
  mode : Byte
  deriving DecidableEq, Repr

/-- The 4 bytes of one slot of a layout block on the wire (R197). -/
structure RawSlot where
  position : Byte
  size : Byte
  crossover : Word16
  deriving DecidableEq, Repr

/-- The 5 bytes of one slot's channel values in a profile (R197). -/
structure RawHalf where
  distance : Word16
  trim : Word16
  polarity : Byte
  deriving DecidableEq, Repr

/-- The commands, in the order of spec/opcode_table.json. -/
inductive Instr where
  /-- HARD_RESET: the cause, and the level of the LINK_RATE pin. -/
  | hardReset (cause : HardCause) (linkRateHigh : Bool)
  /-- SOFT_RESET: the check byte of the RESTART reply has been sent; the level of the LINK_RATE pin. -/
  | softReset (linkRateHigh : Bool)
  /-- FRAME_RECEIVED: the characters received, in order; `none` is a character with a missing stop bit. -/
  | frameReceived (chars : List (Option Byte))
  | gapTimerExpiry
  /-- BAD_KIND: a request of any kind, with its raw body. -/
  | badKind (tag kind : Byte) (body : List Byte)
  | frameSent
  | ident (tag : Byte)
  | partRead (tag : Byte)
  | wake (tag : Byte)
  | standby (tag : Byte)
  | restart (tag : Byte)
  | noticeMask (tag classes : Byte)
  | linkStats (tag clear : Byte)
  | quietTimerExpiry
  | portSet (tag port enable : Byte)
  | portRead (tag port clear : Byte)
  | adcTrim (tag port offset gain : Byte)
  /-- MEASUREMENT_WINDOW_COMPLETE: reference cycles with the frame clock high and low over the window, and the rising
  edges of the bit clock (R6). On an S port the sum of the two is the period count. -/
  | measurementWindowComplete (port : Fin 10) (high low bitEdges : Nat)
  /-- EDGE_TIMER_EXPIRY: the level of the line, sampled at the expiry (R13). -/
  | edgeTimerExpiry (port : Fin 10) (lineHigh : Bool)
  | clockResumed (port : Fin 10)
  /-- STATUS_BLOCK_COMPLETE: the non-audio flag and the word length that the block declares (R10). -/
  | statusBlockComplete (port : Fin 10) (nonAudio : Bool) (wordLength : Nat)
  /-- ADC_SAMPLE: one frame of the ADC; a MIC frame is its `left` sample alone (R17). -/
  | adcSample (port : Fin 10) (left right : Sample)
  /-- CONVERTER_FILLED: the port frames whose writes fill the route's converter (R38). -/
  | converterFilled (route : RouteId) (frames : List (List Sample))
  /-- CONVERTER_SLIP: the port frames whose writes overfill the converter; none of them for an empty slip (R40). -/
  | converterSlip (route : RouteId) (frames : List (List Sample))
  | sourceSet (tag id : Byte) (record : RawSource)
  | sourceRead (tag id : Byte)
  | select (tag route source : Byte)
  | routeRead (tag route : Byte)
  | fadeOutCompletion (route : RouteId)
  | relayoutPoint
  | layoutSet (tag : Byte) (slots : List RawSlot) (lfeToMains : Byte)
  | layoutRead (tag selector : Byte)
  | renderMode (tag mode : Byte)
  | renderModeTakeEffect
  | steerSet (tag k : Byte)
  /-- RENDER_BLOCK_BOUNDARY: the block that ends, one entry an output frame: what the D and S ports delivered before it. -/
  | renderBlockBoundary (block : List (List PortFrame))
  | loadTransfer
  | redelayCommit
  | volume (tag route : Byte) (value : Word16)
  | volumeStep (tag route steps : Byte)
  | mute (tag route value : Byte)
  | channelSet (tag slot : Byte) (distance trim : Word16) (polarity immediate : Byte)
  | channelRead (tag slot : Byte)
  | load (tag : Byte) (slots : Word16)
  | rampSet (tag down up : Byte)
  | lipsync (tag : Byte) (value : Word16)
  | encoderSet (tag enable clear : Byte)
  /-- ENCODER_LINE_CHANGE: the levels of ENC_A and ENC_B after the change (R71). -/
  | encoderLineChange (a b : Bool)
  | protectSet (tag warn trip margin : Byte) (floor : Word16) (debounce limit : Byte) (sensors : List Byte)
  | protectRead (tag clear : Byte)
  | zoneAmp (tag value : Byte)
  | faultClear (tag groups : Byte)
  | spacingTimerExpiry
  /-- SETTLE_TIMER_EXPIRY: the level of the group's fault line, sampled at the expiry (R97). -/
  | settleTimerExpiry (group : Fin 6) (faultHigh : Bool)
  /-- READBACK_CHECK: the level read back from the group's enable line (R95). -/
  | readbackCheck (group : Fin 6) (levelHigh : Bool)
  | faultEdge (group : Fin 6)
  | retryTimerExpiry (group : Fin 6)
  | faultWindowExpiry (group : Fin 6)
  /-- POLL_TICK: the levels read back from the six enable lines, bit 0 for EN1 (R95, R104). -/
  | pollTick (levels : BitVec 6)
  | measure (tag : Byte) (slots : Word16) (repetitions : Byte) (burst : Word16) (reference apply : Byte)
  | slotTurn
  | ambientPhaseEnd
  | burstEnd
  | listenPhaseEnd
  | measureComplete
  | measureStop (tag : Byte)
  | resultRead (tag : Byte)
  | profileRead (tag : Byte)
  | profileWrite (tag : Byte) (slots : List RawSlot) (lfeToMains : Byte) (channels : List RawHalf)
  | measureSet (tag : Byte) (latency correction : Word16)
  | tunerSet (tag fmStep amStep fmLevel fmQuality amLevel amQuality address : Byte)
  | tune (tag band : Byte) (frequency : Word32) (mono : Byte)
  | seek (tag direction : Byte)
  | scan (tag : Byte)
  | tunerStop (tag : Byte)
  | tunerRead (tag : Byte)
  | listRead (tag band : Byte)
  | presetStore (tag preset mode band : Byte) (frequency : Word32) (mono : Byte)
  | presetRecall (tag preset : Byte)
  | presetClear (tag preset : Byte)
  | agcSet (tag mode target : Byte) (manual : Word16)
  | hushTimerExpiry
  | tunerSettleExpiry
  | listeningPollExpiry
  | relay (tag address hold readCount : Byte) (write : List Byte)
  | auxRead (tag clear : Byte)
  | auxSet (tag speed : Byte)
  /-- TRANSACTION_END: the partners' answer (R165, R166). -/
  | transactionEnd (answer : BusAnswer)
  /-- STUCK_DETECT: which line is held low (R170). -/
  | stuckDetect (line : StuckLine)
  /-- RECOVERY_END: what the lines did during the recovery (R171). -/
  | recoveryEnd (lines : RecoveryLines)
  | holdTimerExpiry
  | busRetryTimerExpiry
  deriving DecidableEq, Repr

end Sys2Proof
end

