-- ==== Sys2Proof/Config.lean ====
section
/-! DEFINITION. What the spec leaves open: the free values. Each is an opaque constant, so that no proof can see a
value of it and a statement holds whatever it is. Each is applied to the model's counter `State.free`, which moves on at
every use (log entries 2, 3, 4 and 10). -/

namespace Sys2Proof.Config

/-- A byte of a BAD_VALUE reply that would carry a value of a route, a layout or a band which does not exist: R196 asks
for "the complete reply body of the kind", and no rule states these bytes (log entry 2). -/
opaque freeByte : Nat → Byte

/-- The base step of a converter attached to a port whose period count is 0 (R39 divides by the count; log entry 3). -/
opaque freeBaseStep : Nat → Nat

/-- Whether the abort event is taken before the quiet event when a STANDBY is accepted during a measurement run (R186:
"either may be taken first"; log entry 4). -/
opaque abortFirst : Nat → Bool

/-- The frames of a render block that have been rendered when an event mutes an output inside it, taken modulo 49 (R77, R79:
"from the next frame"; log entry 10). -/
opaque framesGone : Nat → Nat

end Sys2Proof.Config
end

