-- ==== Sys2Proof/Machine/State.lean ====
section
/-! DEFINITION. The state of the 1260: one record for each block of 00_scope (link, ports, routes, renderer, gain unit,
protection unit, measurement unit, tuner unit, auxiliary bus controller), the pins whose level is remembered, the clock of
the model, the counter of the free values and the queue of the commands that wait. Everything is plain data. -/

namespace Sys2Proof.Machine

/-! ## Link unit (chapter 9) -/

/-- The spaces of the outbound queue (R181). -/
inductive Space where
  | reply
  | completion
  | event
  deriving DecidableEq, Repr

/-- A frame of the outbound queue; its start, length and check bytes follow from it (R177, R181). -/
structure Frame where
  space : Space
  kind : Byte
  tag : Byte
  body : List Byte
  deriving DecidableEq, Repr

/-- An entry of the request queue (R179). -/
structure Request where
  kind : Byte
  tag : Byte
  body : List Byte
  deriving DecidableEq, Repr

/-- The phases of the receive assembler with what it has taken so far (R177). -/
inductive Assembler where
  | hunting
  | length
  | kind (len : Nat)
  | tag (len : Nat) (kind : Byte)
  | bodyCheck (len : Nat) (kind tag : Byte) (body : List Byte)
  deriving DecidableEq, Repr

/-- The operating states (section 9.5). -/
inductive OpState where
  | standby
  | waking
  | running
  | quieting
  deriving DecidableEq, Repr

inductive ResetCause where
  | power
  | pin
  | restart
  deriving DecidableEq, Repr

/-- The seven notice classes (section 9.4). -/
inductive NoticeClass where
  | port
  | route
  | tuner
  | protect
  | measure
  | aux
  | link
  deriving DecidableEq, Repr

/-- The link counters of R193; each saturates at 65,535. -/
structure LinkCounters where
  taken : Nat
  stray : Nat
  rejLength : Nat
  rejGap : Nat
  rejCheck : Nat
  rejTag : Nat
  rejFull : Nat
  repliesSent : Nat
  noticesSent : Nat
  dropped : Nat
  deriving DecidableEq, Repr

/-- The records of the link unit (R177 to R193). `wakeTag` and `standbyTag` are the tags of a WAKE and of a STANDBY in
flight; `restarting` holds from the RESTART reply to the soft reset (R189). -/
structure Link where
  assembler : Assembler
  gapDeadline : Option Nat
  requests : List Request
  outbound : List Frame
  restarting : Bool
  opState : OpState
  cause : ResetCause
  rateHigh : Bool
  resetAt : Nat
  quietDeadline : Option Nat
  lost : Nat
  mask : BitVec 7
  wakeTag : Option Byte
  standbyTag : Option Byte
  counters : LinkCounters
  deriving DecidableEq, Repr

/-! ## Port unit (chapter 1) -/

/-- The lock states (section 1.6). -/
inductive LockState where
  | off
  | measuring
  | unsupported
  | locked
  | noClockLow
  | noClockHigh
  deriving DecidableEq, Repr

inductive Format where
  | unknown
  | twoChannel
  | tdm4
  | tdm8
  | biphase
  | analog
  deriving DecidableEq, Repr

/-- The rate classes (R2, R7). -/
inductive RateClass where
  | none
  | r32
  | r44
  | r48
  | r88
  | r96
  | r176
  | r192
  deriving DecidableEq, Repr

/-- The port record (R2). Which fields exist for which kind of port is `portKind`'s matter, and a read shows the others
absent. -/
structure Port where
  enabled : Bool
  lock : LockState
  period : Nat
  high : Nat
  low : Nat
  bits : Nat
  format : Format
  channels : Nat
  rate : RateClass
  nonAudio : Bool
  wordLength : Nat
  blockSeen : Bool
  clips : Nat
  slips : Nat
  offsetTrim : Byte
  gainTrim : Byte
  deriving DecidableEq, Repr

/-! ## Renderer (chapter 3) and the labels -/

/-- Labels of source channels and positions of slots (00_scope; codes of R194). -/
inductive Label where
  | unassigned
  | fl
  | fr
  | c
  | sw1
  | sw2
  | sl
  | sr
  | bl
  | br
  | tfl
  | tfr
  | trl
  | trr
  | lfe
  deriving DecidableEq, Repr

/-- Render modes. `auto` is only ever requested, never effective (R50). -/
inductive RenderMode where
  | auto
  | direct
  | stereo
  | matrix
  deriving DecidableEq, Repr

inductive Size where
  | large
  | small
  deriving DecidableEq, Repr

/-- A slot record of a layout (R47); size and crossover are present together. -/
structure SlotLayout where
  position : Label
  bass : Option (Size × Nat)
  deriving DecidableEq, Repr

structure Layout where
  slots : Table SlotLayout 12
  lfeToMains : Bool
  deriving DecidableEq, Repr

/-- The state of one second-order section: its inputs and outputs of one and two frames earlier (R59). -/
structure Section where
  x1 : Int
  x2 : Int
  y1 : Int
  y2 : Int
  deriving DecidableEq, Repr

/-- An entry of the bass routing table with its low-pass state (R58, R59). -/
structure BassEntry where
  slot : Fin 12
  crossover : Nat
  receivers : List (Fin 12)
  first : Section
  second : Section
  deriving DecidableEq, Repr

/-- A source record (R23); the port is kept by its index. -/
structure Source where
  enabled : Bool
  port : Fin 10
  first : Nat
  count : Nat
  layout : List Label
  trim : Int
  lipsync : Nat
  tunerBound : Bool
  swap : Bool
  mode : RenderMode
  deriving DecidableEq, Repr

/-- The records of the renderer. `lanes` is the render matrix of DIRECT and STEREO (lane by slot), `feeds` the placement of
the five steered signals L − C′, R − C′, C′, S, −S of MATRIX (R52, R63); the one that is not in use is all zero. `attached`
is the record of the source attached to MAIN as it was read at the attach (R23, R57). `modeDue` marks a RENDER_MODE request
whose effect waits for the next boundary (R66). `blockSum` and `blockDiff` are the running block energies of R62. -/
structure Renderer where
  requested : Layout
  inForce : Layout
  present : List (Fin 12)
  zoneFeed : Bool
  bass : List BassEntry
  attached : Option Source
  override : Option RenderMode
  modeDue : Bool
  lanes : Table (Table Int 12) 8
  feeds : Table (Table Int 12) 5
  zoneMix : Table (Int × Int) 8
  energySum : Nat
  energyDiff : Nat
  steerC : Nat
  steerS : Nat
  steerRate : Nat
  blockSum : Nat
  blockDiff : Nat
  deriving DecidableEq, Repr

/-! ## Route controller (chapter 2) -/

inductive RouteState where
  | silent
  | fadingOut
  | waiting
  | playing
  | measure
  deriving DecidableEq, Repr

inductive Purpose where
  | switch
  | relayout
  | hold
  | standby
  | measure
  deriving DecidableEq, Repr

inductive Reason where
  | noLock
  | bitstream
  | tunerBusy
  | sourceDisabled
  | notRunning
  deriving DecidableEq, Repr

inductive ConvState where
  | idle
  | filling
  | running
  | suspended
  deriving DecidableEq, Repr

/-- The input of a converter, taken from the source record at the attach (R27, R38). -/
structure ConvInput where
  port : Fin 10
  first : Nat
  count : Nat
  swap : Bool
  deriving DecidableEq, Repr

/-- A rate converter (R38). A frame of the FIFO is its list of lanes, eight on MAIN and two on ZONE, oldest first. `given`
holds the frames that a converter on an A port has given in the block in progress, which is rendered at its end (R40, log
entry 21). -/
structure Converter where
  state : ConvState
  input : Option ConvInput
  fifo : List (List Int)
  given : List (List Int)
  phase : Nat
  baseStep : Nat
  step : Nat
  deriving DecidableEq, Repr

/-- A route record (R25). A source is named by its index; `none` is "0 (no source)". A pending source that is present
with value 0 is `some none`. -/
structure Route where
  state : RouteState
  selected : Option (Fin 12)
  pending : Option (Option (Fin 12))
  purpose : Option Purpose
  reason : Option Reason
  degraded : Bool
  limited : Bool
  effMode : Option RenderMode
  relayoutDue : Bool
  conv : Converter
  deriving DecidableEq, Repr

/-! ## Gain unit (chapter 4) -/

/-- One half of a channel record (R68). -/
structure Half where
  distance : Nat
  trim : Int
  inverted : Bool
  deriving DecidableEq, Repr

/-- A channel record (R68) with the coefficient of the slot (R78) and the history of its delay line, newest sample
first; samples beyond the end of the list are zero (R81). `early` lists the coefficients that the first frames of the block
in progress still have after a mute inside it: `(n, k)` is `k` for the frames before frame `n` (R77, R79). -/
structure Channel where
  active : Half
  pending : Half
  marked : Bool
  target : Int
  current : Int
  redelay : Bool
  allocated : Nat
  committed : Nat
  coef : Nat
  early : List (Nat × Nat)
  line : List Int
  deriving DecidableEq, Repr

/-- A posted burst gain (R75) with the burst generator that feeds the slot: its shift register and the frames it still
has to give (R121). -/
structure Burst where
  slot : Fin 12
  level : Int
  register : BitVec 16
  left : Nat
  deriving DecidableEq, Repr

/-- The front-panel encoder (R71). -/
structure Encoder where
  enabled : Bool
  refA : Bool
  refB : Bool
  count : Int
  errors : Nat
  deriving DecidableEq, Repr

/-- The records of the gain unit. `mainTrim` and `mainLip` are T_src and O of the source attached to MAIN, `zoneTrim`
that of ZONE; `lipFrames` and `demand` are the LS and the demand of the last allocation (R82). `zoneAssigned` is the zone
amplifier assignment as the gain unit last took it (R74). `zoneEarly` is `early` for the zone line output, and `gone` counts
the frames of the block in progress that had been rendered at the last mute inside it (log entry 10). -/
structure Gain where
  channels : Table Channel 12
  zoneTarget : Int
  zoneCurrent : Int
  zoneCoef : Nat
  zoneEarly : List (Nat × Nat)
  gone : Nat
  mainVolume : Int
  zoneVolume : Int
  mainMute : Bool
  zoneMute : Bool
  downStep : Nat
  upStep : Nat
  userLip : Nat
  mainTrim : Int
  mainLip : Nat
  zoneTrim : Int
  lipFrames : Nat
  demand : Nat
  zoneAssigned : Bool
  burst : Option Burst
  encoder : Encoder
  deriving DecidableEq, Repr

/-! ## Protection unit (chapter 5) -/

inductive GroupState where
  | off
  | powering
  | on
  | faultWait
  | latched
  deriving DecidableEq, Repr

inductive Cause where
  | none
  | current
  | thermal
  | line
  deriving DecidableEq, Repr

/-- A group record (R93) with its enable line as driven and its timers: `settle` (200 ms), `retry` (2,000 ms; in
FAULT_WAIT a stopped retry timer is an expired one), `window` (60 s), `readback` (the times of the 1 ms checks that are
still to be made, one for each change of the driven level, in order), and the end of the debounce period of its last counted
fault (R101). -/
structure Group where
  state : GroupState
  cause : Cause
  faultCount : Nat
  windowStart : Option Nat
  attenuation : Int
  reported : Int
  sensor : Option (BitVec 7)
  lastTemp : Option Int
  failRun : Nat
  sensorLost : Bool
  coolSeen : Bool
  needed : Bool
  currentFaults : Nat
  thermalTrips : Nat
  pollFailures : Nat
  driven : Bool
  settle : Option Nat
  retry : Option Nat
  window : Option Nat
  readback : List Nat
  debounceEnd : Nat
  deriving DecidableEq, Repr

/-- The shared settings (R111). -/
structure ProtectSettings where
  warn : Nat
  trip : Nat
  margin : Nat
  floor : Int
  debounce : Nat
  limit : Nat
  deriving DecidableEq, Repr

/-- The records of the protection unit. `startList` pairs each group on the start list of a WAKING with whether it has
finished its attempt, and `leftFinished` holds the groups that left the list finished (R98); `tick` is the time of the next
poll tick, `lastPolled` the cyclic position of R104 and `polling` the group whose poll is out. -/
structure Protect where
  groups : Table Group 6
  settings : ProtectSettings
  zoneRequested : Bool
  zoneInForce : Bool
  startQueue : List (Fin 6)
  lastStart : Option Nat
  spacing : Option Nat
  startList : Option (List (Fin 6 × Bool))
  leftFinished : List (Fin 6)
  tick : Option Nat
  lastPolled : Option (Fin 6)
  polling : Option (Fin 6)
  deriving DecidableEq, Repr

/-! ## Measurement unit (chapter 6) -/

inductive RunState where
  | preparing
  | probing
  | restoring
  deriving DecidableEq, Repr

inductive Phase where
  | ambient
  | listen
  deriving DecidableEq, Repr

inductive ApplyMode where
  | none
  | stage
  | stageAndLoad
  deriving DecidableEq, Repr

inductive RunOutcome where
  | done
  | degraded
  | aborted
  deriving DecidableEq, Repr

/-- A finished repetition (R123): Δ, level and polarity are present together, when it had an arrival. -/
structure Repetition where
  arrival : Option (Nat × Int × Bool)
  ambient : Int
  clipped : Bool
  deriving DecidableEq, Repr

/-- The probing of the current slot: current slot, repetition, repeat used, phase and phase frame of R115, the working
record of the repetition and the finished repetitions. -/
structure Probe where
  slot : Fin 12
  repetition : Nat
  repeatUsed : Bool
  phase : Phase
  frame : Nat
  peak : Nat
  ambient : Int
  threshold : Nat
  arrival : Option Nat
  sumSquares : Nat
  negative : Bool
  clipped : Bool
  finished : List Repetition
  deriving DecidableEq, Repr

/-- The run record outside IDLE (R115). `todo` holds the slots of the mask that have not had their turn, in order. -/
structure Run where
  state : RunState
  mask : List (Fin 12)
  todo : List (Fin 12)
  probe : Option Probe
  repetitions : Nat
  burst : Int
  reference : Fin 12
  apply : ApplyMode
  tag : Byte
  latency : Nat
  correction : Int
  outcome : RunOutcome
  deriving DecidableEq, Repr

inductive ResultStatus where
  | empty
  | pending
  | ok
  | noisy
  | clipped
  | absent
  | faulted
  | skipped
  deriving DecidableEq, Repr

/-- A results record (R116); distance, level and polarity are present together. -/
structure Result where
  status : ResultStatus
  measured : Option (Nat × Int × Bool)
  trimLimit : Bool
  deriving DecidableEq, Repr

/-- The records of the measurement unit; no run is IDLE. -/
structure Measurement where
  run : Option Run
  latency : Nat
  correction : Int
  results : Table Result 12
  deriving DecidableEq, Repr

/-! ## Tuner unit (chapter 7) -/

inductive Band where
  | fm
  | am
  deriving DecidableEq, Repr

inductive TunerState where
  | off
  | hushing
  | tuning
  | listening
  | seeking
  | scanning
  deriving DecidableEq, Repr

/-- The pending operation of a hush (R143). -/
inductive TunerOp where
  | tune (band : Band) (frequency : Nat) (mono : Bool)
  | seek (up : Bool)
  | scan
  deriving DecidableEq, Repr

inductive AgcMode where
  | closed
  | frozen
  | manual
  deriving DecidableEq, Repr

/-- The step of the tuner that posts a transaction (R141): the tune write and the status read of TUNING, the listening
read, and the write and the read of a seek or scan visit. -/
inductive TunerStep where
  | tuneWrite
  | tuneRead
  | listenRead
  | visitWrite
  | visitRead
  deriving DecidableEq, Repr

/-- An entry of a station list (R140). -/
structure Station where
  frequency : Nat
  level : Nat
  quality : Nat
  stereo : Bool
  deriving DecidableEq, Repr

/-- A preset's contents (R140). -/
structure Preset where
  band : Band
  frequency : Nat
  mono : Bool
  deriving DecidableEq, Repr

/-- The settings written by TUNER_SET (R152). -/
structure TunerSettings where
  fmStep : Nat
  amStep : Nat
  fmLevel : Nat
  fmQuality : Nat
  amLevel : Nat
  amQuality : Nat
  address : BitVec 7
  deriving DecidableEq, Repr

/-- The fields of SCANNING (R139, R149). -/
structure ScanWork where
  returnFrequency : Nat
  returnMono : Bool
  list : List Station
  candidate : Option Station
  dropped : Nat
  full : Bool
  deriving DecidableEq, Repr

/-- The records of the tuner unit. `seek` holds direction and start channel in SEEKING. `outstanding` is the step whose
transaction is out, with whether its outcome is stale already; `deferred` the post held back (R141). `opTag` is the tag of
a SEEK or SCAN in flight. -/
structure Tuner where
  state : TunerState
  op : Option TunerOp
  band : Band
  frequency : Nat
  mono : Bool
  level : Nat
  quality : Nat
  stereo : Bool
  settings : TunerSettings
  agcMode : AgcMode
  agcA : Nat
  agcTarget : Nat
  failRun : Nat
  seek : Option (Bool × Nat)
  scan : Option ScanWork
  fmList : List Station
  amList : List Station
  presets : Table (Option Preset) 30
  hush : Option Nat
  settle : Option Nat
  poll : Option Nat
  outstanding : Option (TunerStep × Bool)
  deferred : Option TunerStep
  opTag : Option Byte
  deriving DecidableEq, Repr

/-! ## Auxiliary bus controller (chapter 8) -/

inductive Requester where
  | tuner
  | protect
  | relay
  deriving DecidableEq, Repr

/-- A transaction in its requester's slot (R163). -/
structure Transaction where
  address : BitVec 7
  write : List Byte
  readCount : Nat
  hold : Bool
  deriving DecidableEq, Repr

/-- The outcomes (R163). -/
inductive BusOutcome where
  | done (bytes : List Byte)
  | nackAddr
  | nackData (index : Nat)
  | stuck
  | busFault
  deriving DecidableEq, Repr

inductive BusState where
  | idle
  | active
  | held
  | recovering
  | busDown
  deriving DecidableEq, Repr

/-- What the controller does on the bus, in order (R165, R171): a start, a repeated start, an address in write or read
direction, a written byte, a read byte with whether the controller acknowledged it, a clock pulse of a recovery, a stop. -/
inductive BusMove where
  | start
  | again
  | address (a : BitVec 7) (reading : Bool)
  | write (b : Byte)
  | read (b : Byte) (acknowledged : Bool)
  | pulse
  | stop
  deriving DecidableEq, Repr

/-- The records of the controller (R164) and of the relay service. `lineFast` is the speed that the running sequence was
started at, or that of the recovery (R171, R176); `moves` is what the controller has done on the bus since the start or
repeated start of the transaction granted last, or in the recovery made last (R165, R171), and `movesBefore` what stood in
`moves` when that sequence began: the whole sequence before it, also where it ended at the same event; `retrying` marks the
recovery of a retry, which runs while the bus stays BUS_DOWN (R172); `relayTag` is the tag of a RELAY in flight and
`relayAddress` its address (R174). -/
structure Bus where
  state : BusState
  fast : Bool
  lineFast : Bool
  moves : List BusMove
  movesBefore : List BusMove
  last : Requester
  tunerSlot : Option Transaction
  protectSlot : Option Transaction
  relaySlot : Option Transaction
  inProgress : Option Requester
  hold : Option Nat
  retry : Option Nat
  retrying : Bool
  nacks : Nat
  stucks : Nat
  holdTimeouts : Nat
  relayTag : Option Byte
  relayAddress : BitVec 7
  deriving DecidableEq, Repr

/-! ## The whole part -/

/-- The pins that the model remembers: inputs at their last known level, outputs as last driven. The enable lines are
`Group.driven` and the AGC duty follows from the tuner record (R142). `slots` and `zone` are the samples of the last output
frame on OUT1 to OUT3 and on the zone DAC, `sent` the bytes of the link frame that the transmit line carried last (R181). -/
structure Pins where
  linkRateHigh : Bool
  encA : Bool
  encB : Bool
  slots : Table Int 12
  zone : Int × Int
  sent : List Byte
  deriving DecidableEq, Repr

/-- The state of the 1260. `now` is the model's clock in ms, `free` the counter of the free values (the model's own
fields), `pending` the queue of commands that wait, first in, first out. -/
structure State where
  link : Link
  ports : Table Port 10
  sources : Table Source 12
  main : Route
  zone : Route
  render : Renderer
  gain : Gain
  protect : Protect
  measure : Measurement
  tuner : Tuner
  bus : Bus
  pins : Pins
  now : Nat
  free : Nat
  pending : List Instr
  deriving DecidableEq, Repr

/-- Reasons for the machine to stop. No command of this part stops it: the spec gives every command an effect, so no
meaning raises a fault. -/
inductive Fault where
  /-- Raised by no command (safe: it can hide no behaviour). -/
  | neverRaised
  deriving DecidableEq, Repr

/-- Reasons to refuse a command. -/
inductive Refusal where
  /-- Raised by an arm of `exec` for a command that has no meaning yet; no arm does (safe). -/
  | notModelled (mnemonic : String)
  deriving DecidableEq, Repr

/-! ## Reset values -/

namespace State

/-- The port record after a hard reset (R3). -/
def resetPort : Port where
  enabled := false
  lock := .off
  period := 0
  high := 0
  low := 0
  bits := 0
  format := .unknown
  channels := 0
  rate := .none
  nonAudio := false
  wordLength := 0
  blockSeen := false
  clips := 0
  slips := 0
  offsetTrim := 128
  gainTrim := 128

/-- The source record after a hard reset (R23). -/
def resetSource : Source where
  enabled := false
  port := 0
  first := 0
  count := 2
  layout := [.fl, .fr]
  trim := 0
  lipsync := 0
  tunerBound := false
  swap := false
  mode := .auto

/-- A converter after either reset (R38); the phase and the steps are DESIGN CHOICE 0 (log entry 5). -/
def idleConverter : Converter where
  state := .idle
  input := none
  fifo := []
  given := []
  phase := 0
  baseStep := 0
  step := 0

/-- A route record after either reset (R25). -/
def resetRoute : Route where
  state := .silent
  selected := none
  pending := none
  purpose := none
  reason := none
  degraded := false
  limited := false
  effMode := none
  relayoutDue := false
  conv := idleConverter

/-- The default layout (R47). -/
def resetLayout : Layout where
  slots := ⟨⟨.fl, some (.large, 80)⟩ :: ⟨.fr, some (.large, 80)⟩ :: List.replicate 10 ⟨.unassigned, none⟩, rfl⟩
  lfeToMains := false

/-- A render matrix of zeros (R52). -/
def zeroMatrix (n : Nat) : Table (Table Int 12) n := Table.fill n (Table.fill 12 0)

/-- The renderer after a hard reset (R47, R48, R51, R52, R58, R60 to R62, R67). -/
def resetRenderer : Renderer where
  requested := resetLayout
  inForce := resetLayout
  present := [0, 1]
  zoneFeed := false
  bass := []
  attached := none
  override := none
  modeDue := false
  lanes := zeroMatrix 8
  feeds := zeroMatrix 5
  zoneMix := Table.fill 8 (0, 0)
  energySum := 0
  energyDiff := 0
  steerC := 8192
  steerS := 8192
  steerRate := 4
  blockSum := 0
  blockDiff := 0

def resetHalf : Half where
  distance := 300
  trim := 0
  inverted := false

/-- A channel record after a hard reset (R68, R82). -/
def resetChannel : Channel where
  active := resetHalf
  pending := resetHalf
  marked := false
  target := -1000
  current := -1000
  redelay := false
  allocated := 0
  committed := 0
  coef := 0
  early := []
  line := []

/-- The encoder after either reset (R71); its reference is taken at the next enable, DESIGN CHOICE low (log entry 5). -/
def resetEncoder : Encoder where
  enabled := false
  refA := false
  refB := false
  count := 0
  errors := 0

/-- The gain unit after a hard reset (R68, R70, R71, R76, R82, R91). -/
def resetGain : Gain where
  channels := Table.fill 12 resetChannel
  zoneTarget := -1000
  zoneCurrent := -1000
  zoneCoef := 0
  zoneEarly := []
  gone := 0
  mainVolume := -400
  zoneVolume := -400
  mainMute := false
  zoneMute := false
  downStep := 10
  upStep := 5
  userLip := 0
  mainTrim := 0
  mainLip := 0
  zoneTrim := 0
  lipFrames := 0
  demand := 0
  zoneAssigned := false
  burst := none
  encoder := resetEncoder

/-- A group record after a hard reset (R93), but for the needed flag. -/
def resetGroup (needed : Bool) : Group where
  state := .off
  cause := .none
  faultCount := 0
  windowStart := none
  attenuation := 0
  reported := 0
  sensor := none
  lastTemp := none
  failRun := 0
  sensorLost := false
  coolSeen := false
  needed := needed
  currentFaults := 0
  thermalTrips := 0
  pollFailures := 0
  driven := false
  settle := none
  retry := none
  window := none
  readback := []
  debounceEnd := 0

/-- The protection unit after a hard reset (R93, R96, R104, R109, R111); G1 alone is needed (R94). -/
def resetProtect : Protect where
  groups := ⟨resetGroup true :: List.replicate 5 (resetGroup false), rfl⟩
  settings := ⟨80, 100, 5, -120, 2, 3⟩
  zoneRequested := false
  zoneInForce := false
  startQueue := []
  lastStart := none
  spacing := none
  startList := none
  leftFinished := []
  tick := none
  lastPolled := none
  polling := none

def emptyResult : Result where
  status := .empty
  measured := none
  trimLimit := false

/-- The measurement unit after a hard reset (R115, R116). -/
def resetMeasurement : Measurement where
  run := none
  latency := 24
  correction := 0
  results := Table.fill 12 emptyResult

/-- The tuner unit after a hard reset (R139, R140). -/
def resetTuner : Tuner where
  state := .off
  op := none
  band := .fm
  frequency := 87500
  mono := false
  level := 0
  quality := 0
  stereo := false
  settings := ⟨100, 9, 30, 8, 40, 0, 0x60⟩
  agcMode := .closed
  agcA := 512
  agcTarget := 60
  failRun := 0
  seek := none
  scan := none
  fmList := []
  amList := []
  presets := Table.fill 30 none
  hush := none
  settle := none
  poll := none
  outstanding := none
  deferred := none
  opTag := none

/-- The auxiliary bus controller after a hard reset (R164). -/
def resetBus : Bus where
  state := .idle
  fast := false
  lineFast := false
  moves := []
  movesBefore := []
  last := .relay
  tunerSlot := none
  protectSlot := none
  relaySlot := none
  inProgress := none
  hold := none
  retry := none
  retrying := false
  nacks := 0
  stucks := 0
  holdTimeouts := 0
  relayTag := none
  relayAddress := 0

def zeroCounters : LinkCounters := ⟨0, 0, 0, 0, 0, 0, 0, 0, 0, 0⟩

/-- The code of a reset cause (R194: POWER 0, PIN 1, RESTART 2). -/
def causeCode : ResetCause → Byte
  | .power => 0
  | .pin => 1
  | .restart => 2

/-- The LINK notice with reason RESET (R184, R198): reason 2, the reset cause, silicon revision 3. -/
def resetNotice (cause : ResetCause) : Frame where
  space := .event
  kind := 0xE7
  tag := 0
  body := [2, causeCode cause, 3]

/-- The link unit after a hard reset (R177, R179, R181, R184); the RESET notice is the first frame it sends. -/
def resetLink (cause : ResetCause) (rateHigh : Bool) : Link where
  assembler := .hunting
  gapDeadline := none
  requests := []
  outbound := [resetNotice cause]
  restarting := false
  opState := .standby
  cause := cause
  rateHigh := rateHigh
  resetAt := 0
  quietDeadline := none
  lost := 0
  mask := 0x7F
  wakeTag := none
  standbyTag := none
  counters := zeroCounters

/-- Every block at its hard-reset values. The output lanes carry silence, and the encoder lines are DESIGN CHOICE low
(log entry 5). -/
def hardReset (cause : ResetCause) (rateHigh : Bool) : State where
  link := resetLink cause rateHigh
  ports := Table.fill 10 resetPort
  sources := Table.fill 12 resetSource
  main := resetRoute
  zone := resetRoute
  render := resetRenderer
  gain := resetGain
  protect := resetProtect
  measure := resetMeasurement
  tuner := resetTuner
  bus := resetBus
  pins := ⟨rateHigh, false, false, Table.fill 12 0, (0, 0), []⟩
  now := 0
  free := 0
  pending := []

/-- The machine right after power-up. The LINK_RATE pin is DESIGN CHOICE low (log entry 5). -/
def reset : State := hardReset .power false

end State

end Sys2Proof.Machine
end

