-- ==== Sys2Proof/Machine/Ops.lean ====
section
/-! DEFINITION. Shared operations: the arithmetic of 00_scope (rounding, clamping, saturation, counters), one update
function for each block of State, the clock, the free values, and the queueing of notices and completions (R181 to R183). -/

namespace Sys2Proof.Machine

/-! ## Arithmetic (00_scope, Conventions) -/

/-- `a / b` to the nearest integer, ties toward +∞ (00_scope, Rounding). -/
def roundDiv (a : Int) (b : Nat) : Int := (2 * a + b) / (2 * b)

/-- A value below `lo` becomes `lo`, one above `hi` becomes `hi` (00_scope, Rounding). -/
def clampInt (lo hi x : Int) : Int := if x < lo then lo else if hi < x then hi else x

def clampNat (lo hi x : Nat) : Nat := if x < lo then lo else if hi < x then hi else x

/-- Saturation to the 24-bit sample range (00_scope, Audio). -/
def saturate (x : Int) : Int := clampInt (-8388608) 8388607 x

/-- One more count of a 16-bit saturating counter (00_scope, Counters). -/
def count16 (n : Nat) : Nat := if n < 65535 then n + 1 else 65535

/-- One more failure in the tuner's 8-bit saturating failure run (R139). -/
def count8 (n : Nat) : Nat := if n < 255 then n + 1 else 255

/-- The record number `k` of the spec (counted from 1) as an index of a table of `n`, if there is one. -/
def numberIndex (n k : Nat) : Option (Fin n) := if h : 1 ≤ k ∧ k ≤ n then some ⟨k - 1, by omega⟩ else none

/-- The six groups, the twelve slots and the ten ports in order. -/
def allGroups : List (Fin 6) := [0, 1, 2, 3, 4, 5]

def allSlots : List (Fin 12) := [0, 1, 2, 3, 4, 5, 6, 7, 8, 9, 10, 11]

def allPorts : List (Fin 10) := [0, 1, 2, 3, 4, 5, 6, 7, 8, 9]

/-- The group that drives a slot: group n drives slots 2n − 1 and 2n (R93). -/
def groupOf (i : Fin 12) : Fin 6 := ⟨i.1 / 2, by omega⟩

/-- The two slots of a group. -/
def slotsOf (g : Fin 6) : List (Fin 12) := [⟨2 * g.1, by omega⟩, ⟨2 * g.1 + 1, by omega⟩]

/-- An index put into a list in increasing order, once (the start queue of R96). -/
def insertIndex {n : Nat} (i : Fin n) : List (Fin n) → List (Fin n)
  | [] => [i]
  | j :: rest => if i.1 < j.1 then i :: j :: rest else if i.1 = j.1 then j :: rest else j :: insertIndex i rest

/-! ## Updates of one block -/

namespace State

def onLink (s : State) (f : Link → Link) : State := { s with link := f s.link }

def onRender (s : State) (f : Renderer → Renderer) : State := { s with render := f s.render }

def onGain (s : State) (f : Gain → Gain) : State := { s with gain := f s.gain }

def onProtect (s : State) (f : Protect → Protect) : State := { s with protect := f s.protect }

def onMeasure (s : State) (f : Measurement → Measurement) : State := { s with measure := f s.measure }

def onTuner (s : State) (f : Tuner → Tuner) : State := { s with tuner := f s.tuner }

def onBus (s : State) (f : Bus → Bus) : State := { s with bus := f s.bus }

def onPins (s : State) (f : Pins → Pins) : State := { s with pins := f s.pins }

def onPort (s : State) (p : Fin 10) (f : Port → Port) : State := { s with ports := s.ports.modify p f }

def setSource (s : State) (i : Fin 12) (x : Source) : State := { s with sources := s.sources.set i x }

/-- The record of a route. -/
def route (s : State) : RouteId → Route
  | .main => s.main
  | .zone => s.zone

def onRoute (s : State) (r : RouteId) (f : Route → Route) : State :=
  match r with
  | .main => { s with main := f s.main }
  | .zone => { s with zone := f s.zone }

def onConv (s : State) (r : RouteId) (f : Converter → Converter) : State :=
  s.onRoute r fun x => { x with conv := f x.conv }

def channel (s : State) (i : Fin 12) : Channel := s.gain.channels.get i

def onChannel (s : State) (i : Fin 12) (f : Channel → Channel) : State :=
  s.onGain fun g => { g with channels := g.channels.modify i f }

def group (s : State) (g : Fin 6) : Group := s.protect.groups.get g

def onGroup (s : State) (g : Fin 6) (f : Group → Group) : State :=
  s.onProtect fun p => { p with groups := p.groups.modify g f }

def port (s : State) (p : Fin 10) : Port := s.ports.get p

def source (s : State) (i : Fin 12) : Source := s.sources.get i

/-- At least the time `t` has come: the expiry of a timer set for `t` says so (log entry 6). -/
def passTo (s : State) (t : Nat) : State := { s with now := if s.now < t then t else s.now }

/-- The next free value is drawn. -/
def drawFree (s : State) : State := { s with free := s.free + 1 }

end State

/-- `n` bytes that no rule states (log entry 2), from the free value counter `c` on. -/
def freeBytes : Nat → Nat → List Byte
  | 0, _ => []
  | n + 1, c => Config.freeByte c :: freeBytes n (c + 1)

/-! ## Notices and completions -/

/-- Bit of a notice class in the mask (R194). -/
def NoticeClass.bit : NoticeClass → Nat
  | .port => 0
  | .route => 1
  | .tuner => 2
  | .protect => 3
  | .measure => 4
  | .aux => 5
  | .link => 6

/-- Kind of an event notice of a class (R198). -/
def NoticeClass.kind : NoticeClass → Byte
  | .port => 0xE1
  | .route => 0xE2
  | .tuner => 0xE3
  | .protect => 0xE4
  | .measure => 0xE5
  | .aux => 0xE6
  | .link => 0xE7

/-- Places of a space in use in a queue (R181). -/
def placesUsed (sp : Space) (q : List Frame) : Nat := q.countP fun f => decide (f.space = sp)

/-- A frame joins the outbound queue as its newest (R181). -/
def State.enqueue (s : State) (f : Frame) : State := s.onLink fun l => { l with outbound := l.outbound ++ [f] }

/-- A block creates an event notice (R183): discarded when its class is off, queued when a notice place is free, dropped
and counted otherwise. -/
def emit (c : NoticeClass) (body : List Byte) (s : State) : State :=
  if s.link.mask.getLsbD c.bit then
    if placesUsed .event s.link.outbound < 16 then s.enqueue ⟨.event, c.kind, 0, body⟩
    else s.onLink fun l =>
      { l with lost := count16 l.lost, counters := { l.counters with dropped := count16 l.counters.dropped } }
  else s

/-- The completion outcomes (R198). -/
inductive Completion where
  | done
  | found
  | emptyBand
  | degraded
  | aborted
  | busFault
  | nack
  | stuck
  deriving DecidableEq, Repr

def completionCode : Completion → Byte
  | .done => 0x00
  | .found => 0x01
  | .emptyBand => 0x02
  | .degraded => 0x03
  | .aborted => 0x10
  | .busFault => 0x11
  | .nack => 0x12
  | .stuck => 0x14

/-- The completion notice of a long request takes the place that was reserved for it (R182, R198). -/
def complete (requestKind tag : Byte) (o : Completion) (part : List Byte) (s : State) : State :=
  s.enqueue ⟨.completion, 0xE0, tag, requestKind :: completionCode o :: part⟩

end Sys2Proof.Machine
end

