-- ==== Sys2Proof/Machine/Flags.lean ====
section
/-! DEFINITION. The codes of the enumerations (R194), the statuses of replies (R196), and the sets carried as masks. -/

namespace Sys2Proof.Machine

/-! ## Statuses (R196) -/

inductive Status where
  | ok
  | started
  | clamped
  | busy
  | notReady
  | badKind
  | badLength
  | badValue
  | notFound
  | empty
  deriving DecidableEq, Repr

def statusCode : Status → Byte
  | .ok => 0x00
  | .started => 0x01
  | .clamped => 0x02
  | .busy => 0x10
  | .notReady => 0x11
  | .badKind => 0x12
  | .badLength => 0x13
  | .badValue => 0x14
  | .notFound => 0x15
  | .empty => 0x16

/-- OK, or CLAMPED when a clamp changed a value. -/
def clampStatus (clamped : Bool) : Status := if clamped then .clamped else .ok

/-! ## Codes (R194) -/

def flagCode (b : Bool) : Byte := if b then 1 else 0

def lockCode : LockState → Byte
  | .off => 0
  | .measuring => 1
  | .unsupported => 2
  | .locked => 3
  | .noClockLow => 4
  | .noClockHigh => 5

def formatCode : Format → Byte
  | .unknown => 0
  | .twoChannel => 1
  | .tdm4 => 2
  | .tdm8 => 3
  | .biphase => 4
  | .analog => 5

def rateCode : RateClass → Byte
  | .none => 0
  | .r32 => 1
  | .r44 => 2
  | .r48 => 3
  | .r88 => 4
  | .r96 => 5
  | .r176 => 6
  | .r192 => 7

def labelCode : Label → Byte
  | .unassigned => 0
  | .fl => 1
  | .fr => 2
  | .c => 3
  | .sw1 => 4
  | .sw2 => 5
  | .sl => 6
  | .sr => 7
  | .bl => 8
  | .br => 9
  | .tfl => 10
  | .tfr => 11
  | .trl => 12
  | .trr => 13
  | .lfe => 14

/-- The label of a code; codes above 14 name none. -/
def labelOf (b : Byte) : Option Label :=
  [Label.unassigned, .fl, .fr, .c, .sw1, .sw2, .sl, .sr, .bl, .br, .tfl, .tfr, .trl, .trr, .lfe][b.toNat]?

def sizeCode : Size → Byte
  | .large => 0
  | .small => 1

def modeCode : RenderMode → Byte
  | .auto => 0
  | .direct => 1
  | .stereo => 2
  | .matrix => 3

def modeOf (b : Byte) : Option RenderMode := [RenderMode.auto, .direct, .stereo, .matrix][b.toNat]?

def routeCode : RouteId → Byte
  | .main => 0
  | .zone => 1

def routeOf (b : Byte) : Option RouteId := [RouteId.main, .zone][b.toNat]?

def routeStateCode : RouteState → Byte
  | .silent => 0
  | .fadingOut => 1
  | .waiting => 2
  | .playing => 3
  | .measure => 4

def purposeCode : Purpose → Byte
  | .switch => 0
  | .relayout => 1
  | .hold => 2
  | .standby => 3
  | .measure => 4

def reasonCode : Reason → Byte
  | .noLock => 0
  | .bitstream => 1
  | .tunerBusy => 2
  | .sourceDisabled => 3
  | .notRunning => 4

def convCode : ConvState → Byte
  | .idle => 0
  | .filling => 1
  | .running => 2
  | .suspended => 3

def groupStateCode : GroupState → Byte
  | .off => 0
  | .powering => 1
  | .on => 2
  | .faultWait => 3
  | .latched => 4

def groupCauseCode : Cause → Byte
  | .none => 0
  | .current => 1
  | .thermal => 2
  | .line => 3

/-- Run state; no run is IDLE 0. -/
def runStateCode : Option RunState → Byte
  | none => 0
  | some .preparing => 1
  | some .probing => 2
  | some .restoring => 3

/-- The phases of R115, which R194 gives no codes: in the order R115 names them (log entry 8). -/
def phaseCode : Phase → Byte
  | .ambient => 0
  | .listen => 1

def applyCode : ApplyMode → Byte
  | .none => 0
  | .stage => 1
  | .stageAndLoad => 2

def applyOf (b : Byte) : Option ApplyMode := [ApplyMode.none, .stage, .stageAndLoad][b.toNat]?

/-- Outcome so far of a run (R197: DONE 0x00, DEGRADED 0x03, ABORTED 0x10). -/
def runOutcome : RunOutcome → Completion
  | .done => .done
  | .degraded => .degraded
  | .aborted => .aborted

def resultCode : ResultStatus → Byte
  | .empty => 0
  | .pending => 1
  | .ok => 2
  | .noisy => 3
  | .clipped => 4
  | .absent => 5
  | .faulted => 6
  | .skipped => 7

def tunerStateCode : TunerState → Byte
  | .off => 0
  | .hushing => 1
  | .tuning => 2
  | .listening => 3
  | .seeking => 4
  | .scanning => 5

def bandCode : Band → Byte
  | .fm => 0
  | .am => 1

def bandOf (b : Byte) : Option Band := [Band.fm, .am][b.toNat]?

def agcCode : AgcMode → Byte
  | .closed => 0
  | .frozen => 1
  | .manual => 2

def agcOf (b : Byte) : Option AgcMode := [AgcMode.closed, .frozen, .manual][b.toNat]?

def busStateCode : BusState → Byte
  | .idle => 0
  | .active => 1
  | .held => 2
  | .recovering => 3
  | .busDown => 4

def requesterCode : Requester → Byte
  | .tuner => 0
  | .protect => 1
  | .relay => 2

def opStateCode : OpState → Byte
  | .standby => 0
  | .waking => 1
  | .running => 2
  | .quieting => 3

/-- The rejection reasons of a frame (R178, codes of R198). -/
inductive Reject where
  | length
  | gap
  | check
  | tag
  | queueFull
  deriving DecidableEq, Repr

def rejectCode : Reject → Byte
  | .length => 0
  | .gap => 1
  | .check => 2
  | .tag => 3
  | .queueFull => 4

/-! ## Sets (R194) -/

/-- The set of indices as a number, index i at bit i. -/
def maskOf {n : Nat} (l : List (Fin n)) : Nat := l.foldl (fun m i => m ||| (1 <<< i.1)) 0

/-- The slots of a slot mask, in order. -/
def slotsOfMask (m : Word16) : List (Fin 12) := allSlots.filter fun i => m.getLsbD i.1

/-- The groups of a group mask, in order. -/
def groupsOfMask (m : Byte) : List (Fin 6) := allGroups.filter fun g => m.getLsbD g.1

/-- A field of value 0 or 1. -/
def boolOf (b : Byte) : Option Bool := [false, true][b.toNat]?

end Sys2Proof.Machine
end

