-- ==== Sys2Proof/Machine/Operands.lean ====
section
/-! DEFINITION. The fields of bodies (R194, R196, R197): reading them at their offsets in a received body and writing
them into replies and notices. Multi-byte fields are little-endian on the control link. -/

namespace Sys2Proof.Machine

/-! ## Reading a received body -/

/-- The byte at an offset. The length check of R195 comes before any field is read, so the default is never used. -/
def byteAt (b : List Byte) (i : Nat) : Byte := b.getD i 0

/-- The u16 or s16 field at an offset, least significant byte first. -/
def wordAt (b : List Byte) (i : Nat) : Word16 := byteAt b (i + 1) ++ byteAt b i

/-- The u32 field at an offset. -/
def longAt (b : List Byte) (i : Nat) : Word32 := wordAt b (i + 2) ++ wordAt b i

/-! ## Writing fields -/

def le16 (w : Word16) : List Byte := [w.extractLsb' 0 8, w.extractLsb' 8 8]

def le32 (w : Word32) : List Byte := le16 (w.extractLsb' 0 16) ++ le16 (w.extractLsb' 16 16)

def u8 (n : Nat) : List Byte := [BitVec.ofNat 8 n]

def u16 (n : Nat) : List Byte := le16 (BitVec.ofNat 16 n)

def u32 (n : Nat) : List Byte := le32 (BitVec.ofNat 32 n)

def s8 (x : Int) : List Byte := [BitVec.ofInt 8 x]

def s16 (x : Int) : List Byte := le16 (BitVec.ofInt 16 x)

/-- An optional field of `size` bytes: presence byte, then the field, zero bytes when absent (R194). -/
def optional (size : Nat) : Option (List Byte) → List Byte
  | some f => 1 :: f
  | none => 0 :: List.replicate size 0

/-- A list: entry count, the entries, zero bytes up to `most` entries of `size` bytes (R196). -/
def listField (size most : Nat) (entries : List (List Byte)) : List Byte :=
  u8 entries.length ++ entries.flatten ++ List.replicate ((most - entries.length) * size) 0

/-- Number of a slot, port, source or group on the wire. -/
def number {n : Nat} (i : Fin n) : Byte := BitVec.ofNat 8 (i.1 + 1)

/-- Source id, 0 for no source. -/
def sourceNumber : Option (Fin 12) → Byte
  | none => 0
  | some i => number i

/-- A frame with its start, length and check bytes, as it is on the line (10.1, R177, R181). -/
def frameBytes (kind tag : Byte) (body : List Byte) : List Byte :=
  let summed := BitVec.ofNat 8 body.length :: kind :: tag :: body
  0xC5 :: summed ++ [-(summed.foldl (· + ·) 0)]

/-! ## Raw records of requests (R195, R197) -/

def RawSource.bytes (r : RawSource) : List Byte :=
  [r.enabled, r.port, r.first, r.count] ++ r.layout ++ le16 r.trim ++ le16 r.lipsync ++ [r.tunerBound, r.swap, r.mode]

def RawSlot.bytes (r : RawSlot) : List Byte := [r.position, r.size] ++ le16 r.crossover

def RawHalf.bytes (r : RawHalf) : List Byte := le16 r.distance ++ le16 r.trim ++ [r.polarity]

/-- The layout block of a body (R197), from offset `at0`. -/
def rawSlotAt (b : List Byte) (at0 : Nat) (i : Fin 12) : RawSlot :=
  ⟨byteAt b (at0 + 4 * i.1), byteAt b (at0 + 4 * i.1 + 1), wordAt b (at0 + 4 * i.1 + 2)⟩

def rawHalfAt (b : List Byte) (at0 : Nat) (i : Fin 12) : RawHalf :=
  ⟨wordAt b (at0 + 5 * i.1), wordAt b (at0 + 5 * i.1 + 2), byteAt b (at0 + 5 * i.1 + 4)⟩

def rawSourceAt (b : List Byte) (at0 : Nat) : RawSource where
  enabled := byteAt b at0
  port := byteAt b (at0 + 1)
  first := byteAt b (at0 + 2)
  count := byteAt b (at0 + 3)
  layout := (b.drop (at0 + 4)).take 8
  trim := wordAt b (at0 + 12)
  lipsync := wordAt b (at0 + 14)
  tunerBound := byteAt b (at0 + 16)
  swap := byteAt b (at0 + 17)
  mode := byteAt b (at0 + 18)

/-! ## Records in replies and notices (R197, R198) -/

/-- The source record, 19 bytes. -/
def sourceBytes (x : Source) : List Byte :=
  [flagCode x.enabled, number x.port, BitVec.ofNat 8 x.first, BitVec.ofNat 8 x.count]
    ++ x.layout.map labelCode ++ List.replicate (8 - x.layout.length) 0
    ++ s16 x.trim ++ u16 x.lipsync ++ [flagCode x.tunerBound, flagCode x.swap, modeCode x.mode]

/-- The first 12 bytes of the route status (R197, R198). -/
def routeBytes (r : RouteId) (x : Route) : List Byte :=
  [routeCode r, routeStateCode x.state, sourceNumber x.selected]
    ++ optional 1 (x.pending.map fun p => [sourceNumber p])
    ++ optional 1 (x.purpose.map fun p => [purposeCode p])
    ++ optional 1 (x.reason.map fun p => [reasonCode p])
    ++ u8 ((if x.degraded then 1 else 0) + (if x.limited then 2 else 0)
        + (if r = .main ∧ x.relayoutDue = true then 4 else 0))
    ++ optional 1 (x.effMode.map fun m => [modeCode m])

/-- The route status, 17 bytes. -/
def routeStatusBytes (r : RouteId) (x : Route) : List Byte :=
  routeBytes r x ++ [convCode x.conv.state] ++ optional 1 (x.conv.input.map fun i => [number i.port])
    ++ u16 x.conv.fifo.length

def halfBytes (h : Half) : List Byte := u16 h.distance ++ s16 h.trim ++ [flagCode h.inverted]

/-- The channel record, 26 bytes. -/
def channelBytes (i : Fin 12) (present : Bool) (c : Channel) : List Byte :=
  [number i, flagCode present] ++ halfBytes c.active ++ halfBytes c.pending ++ [flagCode c.marked]
    ++ s16 c.target ++ s16 c.current ++ [flagCode c.redelay] ++ u32 c.allocated ++ u32 c.committed

def slotLayoutBytes (x : SlotLayout) : List Byte :=
  labelCode x.position :: match x.bass with
    | some (z, f) => sizeCode z :: u16 f
    | none => 0xFF :: u16 0

/-- The layout block, 49 bytes. -/
def layoutBytes (l : Layout) : List Byte :=
  (l.slots.items.map slotLayoutBytes).flatten ++ [flagCode l.lfeToMains]

/-- The profile, 109 bytes: the layout, then one half of the twelve channels. -/
def profileBytes (l : Layout) (half : Channel → Half) (g : Gain) : List Byte :=
  layoutBytes l ++ (g.channels.items.map fun c => halfBytes (half c)).flatten

/-- The result record, 8 bytes. -/
def resultBytes (r : Result) : List Byte :=
  [resultCode r.status]
    ++ (match r.measured with
        | some (d, v, inv) => 1 :: u16 d ++ s16 v ++ [flagCode inv]
        | none => List.replicate 6 0)
    ++ [flagCode r.trimLimit]

/-- A station entry, 4 bytes: channel number, level, quality with stereo in bit 7 (R197). -/
def stationBytes (lowest step : Nat) (x : Station) : List Byte :=
  u16 ((x.frequency - lowest) / step) ++ u8 x.level ++ u8 (x.quality + if x.stereo then 128 else 0)

end Sys2Proof.Machine
end

