-- ==== Sys2Proof/Machine/Gain.lean ====
section
/-! DEFINITION. The gain unit (chapter 4): the gain law, target levels, ramps, hard mutes, burst gains, the delay
allocation and re-delay, LOAD, the volumes and the encoder. -/

namespace Sys2Proof.Machine

/-! ## The gain law (R78) -/

/-- round(2^20 × 2^(r / 60)) for r from 0 to 59: the fixed table of R78. -/
def gainTable : List Nat :=
  [1048576, 1060760, 1073085, 1085554, 1098167, 1110928, 1123836, 1136894, 1150104, 1163468, 1176987, 1190663,
   1204498, 1218493, 1232651, 1246974, 1261463, 1276121, 1290948, 1305949, 1321123, 1336474, 1352003, 1367712,
   1383604, 1399681, 1415945, 1432397, 1449041, 1465878, 1482910, 1500141, 1517572, 1535205, 1553043, 1571089,
   1589344, 1607811, 1626493, 1645392, 1664511, 1683851, 1703417, 1723209, 1743232, 1763488, 1783978, 1804707,
   1825677, 1846890, 1868350, 1890059, 1912021, 1934237, 1956712, 1979448, 2002448, 2025715, 2049253, 2073064]

/-- The coefficient K of a level (R78). -/
def gainLaw (level : Int) : Nat :=
  if level ≤ -900 then 0
  else
    let q := level / 60
    let t := gainTable.getD (level - 60 * q).toNat 0
    if 0 ≤ q then t * 2 ^ q.toNat else (t + 2 ^ ((-q).toNat - 1)) / 2 ^ (-q).toNat

/-! ## What drives a slot -/

def State.isPresent (s : State) (i : Fin 12) : Bool := decide (i ∈ s.render.present)

/-- Slots 7 and 8 carry the zone while the assignment that the gain unit took is on (R74). -/
def State.isZoneSlot (s : State) (i : Fin 12) : Bool := s.gain.zoneAssigned && (decide (i = 6) || decide (i = 7))

def State.groupOn (s : State) (i : Fin 12) : Bool := decide ((s.group (groupOf i)).state = .on)

/-- The coefficient of a main slot at a level: 0 while its group is not ON (R79), and 0 for a slot that is neither present
nor zone-assigned (R80). -/
def slotCoef (s : State) (i : Fin 12) (level : Int) : Nat :=
  if s.groupOn i && (s.isPresent i || s.isZoneSlot i) then gainLaw level else 0

/-! ## Targets and ramps (R73 to R76) -/

/-- The target of the zone gain sum with `more` added (R74). -/
def zoneSum (s : State) (more : Int) : Int :=
  if s.zone.state = .playing ∧ s.gain.zoneMute = false then
    clampInt (-1000) 180 (s.gain.zoneVolume + s.gain.zoneTrim + more)
  else -1000

/-- The target of a present main slot (R73). -/
def mainSum (s : State) (i : Fin 12) : Int :=
  if s.main.state = .playing ∧ s.gain.mainMute = false ∧ (s.channel i).redelay = false then
    clampInt (-1000) 180
      (s.gain.mainVolume + s.gain.mainTrim + (s.channel i).active.trim + (s.group (groupOf i)).attenuation)
  else -1000

/-- The level of a posted burst on its slot (R75). -/
def burstLevel (s : State) (b : Burst) : Int :=
  clampInt (-1000) 180 (b.level + (s.group (groupOf b.slot)).attenuation)

/-- The slot's burst, if one is posted on it. -/
def burstOn (s : State) (i : Fin 12) : Option Burst := s.gain.burst.filter fun b => decide (b.slot = i)

/-- The target level of a slot in any role (R73 to R75). -/
def slotTarget (s : State) (i : Fin 12) : Int :=
  match burstOn s i with
  | some b => burstLevel s b
  | none =>
    if s.isZoneSlot i then zoneSum s (s.group 3).attenuation
    else if s.isPresent i then mainSum s i
    else -1000

/-- One boundary's move of a level toward its target (R76 step 3). -/
def rampTo (down up : Nat) (target c : Int) : Int :=
  if target < c then max target (c - down) else min target (c + up)

/-- The new current level of a slot; it is held at −1,000 while the group is not ON (R79). -/
def slotLevel (s : State) (i : Fin 12) : Int :=
  if s.groupOn i then rampTo s.gain.downStep s.gain.upStep (slotTarget s i) (s.channel i).current else -1000

/-- Steps 2 to 4 of R76: targets, ramps and coefficients of the twelve slots and of the zone line, for all frames of the block
that begins. -/
def boundaryLevels (s : State) : State :=
  let zl := rampTo s.gain.downStep s.gain.upStep (zoneSum s 0) s.gain.zoneCurrent
  s.onGain fun g =>
    { g with
      zoneTarget := zoneSum s 0
      zoneCurrent := zl
      zoneCoef := gainLaw zl
      zoneEarly := []
      gone := 0
      channels := g.channels.mapIdx fun i c =>
        { c with
          target := slotTarget s i, current := slotLevel s i, coef := slotCoef s i (slotLevel s i), early := [] } }

/-! ## Hard mutes and groups (R77, R79) -/

/-- Some frames of the block in progress have been rendered, at least as many as at the last mute inside it: a free value
(log entry 10). -/
def elapse (s : State) : State :=
  s.drawFree.onGain fun g => { g with gone := max g.gone (Config.framesGone s.free % 49) }

/-- A coefficient becomes 0 from frame `n` on: the frames before it keep `k`. -/
def keepEarly (n k : Nat) (early : List (Nat × Nat)) : List (Nat × Nat) := if k = 0 then early else early ++ [(n, k)]

/-- A slot goes to −1,000 at once and to coefficient 0 from the next frame. -/
def muteSlot (i : Fin 12) (s : State) : State :=
  s.onChannel i fun c => { c with current := -1000, coef := 0, early := keepEarly s.gain.gone c.coef c.early }

/-- The zone line output goes to −1,000 at once and to coefficient 0 from the next frame. -/
def muteZone (s : State) : State :=
  s.onGain fun g => { g with zoneCurrent := -1000, zoneCoef := 0, zoneEarly := keepEarly g.gone g.zoneCoef g.zoneEarly }

/-- Slots, and the zone line output if `zone` holds, go to −1,000 at once and to coefficient 0 from the next frame. Which frame
that is matters only if one of them is heard. -/
def muteOutputs (l : List (Fin 12)) (zone : Bool) (s : State) : State :=
  let heard := (l.any fun i => decide ((s.channel i).coef ≠ 0)) || (zone && decide (s.gain.zoneCoef ≠ 0))
  let t := l.foldl (fun u i => muteSlot i u) (if heard then elapse s else s)
  if zone then muteZone t else t

/-- The slots among the outputs of a route (R77). -/
def routeSlots (s : State) : RouteId → List (Fin 12)
  | .main => s.render.present
  | .zone => if s.gain.zoneAssigned then [6, 7] else []

/-- A hard mute of a route's outputs (R77). -/
def hardMute (r : RouteId) (s : State) : State := muteOutputs (routeSlots s r) (decide (r = .zone)) s

/-- A hard mute of the two slots of a group (R77, R108). -/
def muteGroup (g : Fin 6) (s : State) : State := muteOutputs (slotsOf g) false s

/-- The gain unit takes a group state event: coefficients of the group's slots from their levels when it is ON, and
silence when it has left ON (R79). -/
def gainGroupEvent (g : Fin 6) (s : State) : State :=
  if (s.group g).state = .on then
    (slotsOf g).foldl (fun u i => u.onChannel i fun c => { c with coef := slotCoef u i c.current }) s
  else muteGroup g s

/-- The coefficients of all slots after a change of the present set or of the zone assignment (R80). DESIGN CHOICE (log entry
20): a slot that joins has its coefficient from its level at the event itself, not at the next boundary (R76 step 4); the table
of section 4.10 gives none at present-set-changed. -/
def refreshCoefs (s : State) : State :=
  s.onGain fun g => { g with channels := g.channels.mapIdx fun i c => { c with coef := slotCoef s i c.current } }

/-! ## Burst gains (R75) -/

/-- The measurement unit posts a burst gain; the generator starts at 0xACE1 for 960 frames (R75, R121). -/
def postBurst (i : Fin 12) (level : Int) (s : State) : State :=
  let b : Burst := ⟨i, level, 0xACE1, 960⟩
  let t := s.onGain fun g => { g with burst := some b }
  t.onChannel i fun c =>
    { c with target := burstLevel s b, current := burstLevel s b, coef := slotCoef s i (burstLevel s b) }

/-- The burst gain, if one is posted, is withdrawn: its slot goes to −1,000 at once (R75). -/
def withdrawBurst (s : State) : State :=
  match s.gain.burst with
  | none => s
  | some b =>
    (s.onGain fun g => { g with burst := none }).onChannel b.slot fun c =>
      { c with target := -1000, current := -1000, coef := 0 }

/-! ## Delay allocation and re-delay (R82, R83) -/

/-- The largest active distance of the present slots. -/
def farthest (s : State) : Nat := (s.render.present.map fun i => (s.channel i).active.distance).foldl max 0

/-- D_i: the frames that align a loudspeaker at `d` cm with one at `most` cm (R82). -/
def alignFrames (most d : Nat) : Nat := (roundDiv (48000 * (most - d : Nat)) 34300).toNat

/-- D_i of a slot. -/
def slotAlign (s : State) (i : Fin 12) : Nat := alignFrames (farthest s) (s.channel i).active.distance

/-- ΣD over the present slots. -/
def alignSum (s : State) : Nat := (s.render.present.map (slotAlign s)).sum

/-- The demand on the delay memory with a lip-sync of `lip` frames. -/
def delayDemand (s : State) (lip : Nat) : Nat := alignSum s + s.render.present.length * lip

/-- The LS that a requested lip-sync is granted (R82). -/
def lipGranted (s : State) (lip : Nat) : Nat :=
  if delayDemand s lip ≤ 196608 then lip else (196608 - alignSum s) / s.render.present.length

/-- The requested lip-sync LS_req in frames (R82). -/
def lipRequested (s : State) : Nat := 48 * (s.gain.mainLip + s.gain.userLip)

/-- A channel record under an allocation: a present slot takes its allocated delay and enters REDELAY when it differs
from the committed one; any other slot has no delay (R81 to R83). -/
def allocateChannel (s : State) (lip : Nat) (i : Fin 12) (c : Channel) : Channel :=
  if s.isPresent i then
    { c with
      allocated := slotAlign s i + lip
      redelay := c.redelay || decide (slotAlign s i + lip ≠ c.committed) }
  else { c with allocated := 0, committed := 0, redelay := false, line := [] }

/-- The delay allocation (R82); LIPSYNC_LIMITED goes into the MAIN route record (R25). -/
def allocate (s : State) : State :=
  let lip := lipGranted s (lipRequested s)
  let t := s.onGain fun g =>
    { g with
      lipFrames := lip
      demand := delayDemand s (lipRequested s)
      channels := g.channels.mapIdx (allocateChannel s lip) }
  t.onRoute .main fun r => { r with limited := decide (196608 < delayDemand s (lipRequested s)) }

/-- Whether every slot in REDELAY has fallen silent, and there is one (R83). -/
def redelayDue (s : State) : Bool :=
  s.gain.channels.items.any (·.redelay) && s.gain.channels.items.all fun c => !c.redelay || decide (c.current ≤ -900)

/-- The delay lines of the present slots hold silence, as they do when MAIN leaves MEASURE (R81). -/
def silenceLines (s : State) : State :=
  s.onGain fun g => { g with channels := g.channels.mapIdx fun i c => if s.isPresent i then { c with line := [] } else c }

/-- The slots in REDELAY take their allocated delays together, and their lines are cleared, also that of a slot whose delay
stays what it was (R83; log entry 20). -/
def commitRedelay (s : State) : State :=
  s.onGain fun g =>
    { g with
      channels := g.channels.mapIdx fun _ c =>
        if c.redelay then { c with committed := c.allocated, redelay := false, line := [] } else c }

/-- The re-delay check (R76 step 5, R83). -/
def redelayCheck (s : State) : State := if redelayDue s then commitRedelay s else s

/-! ## LOAD (R69) -/

/-- Whether a load at this boundary changes an active distance of a present slot. -/
def loadMovesDistance (s : State) : Bool :=
  s.render.present.any fun i =>
    (s.channel i).marked && decide ((s.channel i).pending.distance ≠ (s.channel i).active.distance)

/-- The pending halves of the marked slots become active and the marks are cleared. -/
def loadHalves (s : State) : State :=
  s.onGain fun g =>
    { g with channels := g.channels.mapIdx fun _ c => if c.marked then { c with active := c.pending, marked := false } else c }

/-- Step 1 of R76. -/
def loadMarked (s : State) : State := if loadMovesDistance s then allocate (loadHalves s) else loadHalves s

/-- The load marks of some slots are set (R69). -/
def markSlots (l : List (Fin 12)) (s : State) : State :=
  l.foldl (fun u i => u.onChannel i fun c => { c with marked := true }) s

/-- The slots marked for the next boundary. -/
def markedSlots (s : State) : List (Fin 12) := allSlots.filter fun i => (s.channel i).marked

/-! ## Fade-out completion (R28) -/

/-- Whether every current level fed by the route's gain sum is at or below −90.0 dB. -/
def routeFaded (s : State) (r : RouteId) : Bool :=
  (routeSlots s r).all (fun i => decide ((s.channel i).current ≤ -900)) &&
    match r with
    | .main => true
    | .zone => decide (s.gain.zoneCurrent ≤ -900)

/-! ## Volume, mute and encoder (R70 to R72) -/

def State.volume (s : State) : RouteId → Int
  | .main => s.gain.mainVolume
  | .zone => s.gain.zoneVolume

def State.muted (s : State) : RouteId → Bool
  | .main => s.gain.mainMute
  | .zone => s.gain.zoneMute

/-- The range of a route's volume (R70). -/
def clampVolume (r : RouteId) (v : Int) : Int :=
  match r with
  | .main => clampInt (-800) 150 v
  | .zone => clampInt (-800) 0 v

/-- The ROUTE notice with reason VOLUME (R70, R198); cause REQUEST 0, ENCODER 1. -/
def volumeNotice (r : RouteId) (cause : Byte) (s : State) : State :=
  emit .route ([1, routeCode r] ++ s16 (s.volume r) ++ [flagCode (s.muted r), cause]) s

/-- A route's volume becomes `v`; a change queues a VOLUME notice (R70). -/
def setVolume (r : RouteId) (v : Int) (cause : Byte) (s : State) : State :=
  if s.volume r = v then s
  else volumeNotice r cause <| s.onGain fun g =>
    match r with
    | .main => { g with mainVolume := v }
    | .zone => { g with zoneVolume := v }

/-- A route's mute term becomes `m`; a change queues a VOLUME notice (R70, R86). -/
def setMute (r : RouteId) (m : Bool) (s : State) : State :=
  if s.muted r = m then s
  else volumeNotice r 0 <| s.onGain fun g =>
    match r with
    | .main => { g with mainMute := m }
    | .zone => { g with zoneMute := m }

/-- Place of a line pair in the forward cycle 00, 10, 11, 01 (R71). -/
def quadrature (a b : Bool) : Nat :=
  match a, b with
  | false, false => 0
  | true, false => 1
  | true, true => 2
  | false, true => 3

/-- The encoder's count reached a whole detent cycle: one step of V (R72). -/
def encoderStep (s : State) : State :=
  let c := s.gain.encoder.count
  let zeroed := s.onGain fun g => { g with encoder := { g.encoder with count := 0 } }
  if 4 ≤ c then setVolume .main (clampVolume .main (s.gain.mainVolume + 5)) 1 zeroed
  else if c ≤ -4 then setVolume .main (clampVolume .main (s.gain.mainVolume - 5)) 1 zeroed
  else s

/-- A new line pair at an enabled encoder (R71): a forward or backward change counts, a change of both lines is an invalid
transition, and the pair becomes the reference. -/
def encoderMove (a b : Bool) (e : Encoder) : Encoder :=
  let d := (quadrature a b + 4 - quadrature e.refA e.refB) % 4
  { e with
    refA := a
    refB := b
    count := if d = 1 then e.count + 1 else if d = 3 then e.count - 1 else e.count
    errors := if d = 2 then count16 e.errors else e.errors }

end Sys2Proof.Machine
end

