-- ==== Sys2Proof/Machine/Render.lean ====
section
/-! DEFINITION. The renderer (chapter 3): present set, bass routing table, derivation of the render matrix in the three
modes, zone downmix, and the steering update. -/

namespace Sys2Proof.Machine

/-- A slot is present when its in-force position is assigned and the zone does not take it (R48). -/
def presentSlots (l : Layout) (zone : Bool) : List (Fin 12) :=
  allSlots.filter fun i =>
    decide ((l.slots.get i).position ≠ .unassigned) && !(zone && (decide (i = 6) || decide (i = 7)))

/-- The present slot that stands at a position. -/
def slotAt (l : Layout) (present : List (Fin 12)) (p : Label) : Option (Fin 12) :=
  present.find? fun i => decide ((l.slots.get i).position = p)

/-- The present subwoofer slots. -/
def subwoofers (l : Layout) (present : List (Fin 12)) : List (Fin 12) :=
  present.filter fun i => decide ((l.slots.get i).position = .sw1) || decide ((l.slots.get i).position = .sw2)

/-! ## Bass routing table (R58) -/

def clearSection : Section := ⟨0, 0, 0, 0⟩

/-- The entry of a slot, if it sends its low part: a present SMALL slot that is not treated as LARGE. -/
def bassEntry (l : Layout) (present : List (Fin 12)) (i : Fin 12) : Option BassEntry :=
  match (l.slots.get i).bass with
  | some (.small, f) =>
    if subwoofers l present ≠ [] then some ⟨i, f, subwoofers l present, clearSection, clearSection⟩
    else if i = 0 ∨ i = 1 then none
    else some ⟨i, f, [0, 1], clearSection, clearSection⟩
  | _ => none

def bassTable (l : Layout) (present : List (Fin 12)) : List BassEntry := present.filterMap (bassEntry l present)

/-! ## Effective render mode (R50) -/

def effectiveMode (requested : RenderMode) (count : Nat) : RenderMode :=
  match requested with
  | .auto | .matrix => if count = 2 then .matrix else .direct
  | .direct => .direct
  | .stereo => .stereo

/-! ## Derivation of the matrix (R54 to R56, R63) -/

/-- Coefficients of one lane or signal: slot and Q2.14 coefficient. -/
abbrev Row := List (Fin 12 × Int)

/-- A coefficient carried through the fold of an absent target (R54). -/
def foldThrough (r : Row) : Row := r.map fun p => (p.1, roundDiv (11585 * p.2) 16384)

/-- To the slot at a position at full level if it is present, and `otherwise` if not. -/
def orElse (l : Layout) (present : List (Fin 12)) (p : Label) (otherwise : Row) : Row :=
  match slotAt l present p with
  | some i => [(i, 16384)]
  | none => otherwise

/-- The fold of a side label (R54). -/
def foldSide (l : Layout) (present : List (Fin 12)) (back : Label) (front : Fin 12) : Row :=
  orElse l present back [(front, 11585)]

/-- The fold of a top rear label: the top front at full level, else the side at 0.7071, folded on if it is absent (R54). -/
def foldTopRear (l : Layout) (present : List (Fin 12)) (top side back : Label) (front : Fin 12) : Row :=
  orElse l present top <|
    match slotAt l present side with
    | some i => [(i, 11585)]
    | none => foldThrough (foldSide l present back front)

/-- The placement of the LFE lane in DIRECT (R55). -/
def lfeRow (l : Layout) (present : List (Fin 12)) : Row :=
  if subwoofers l present ≠ [] then (subwoofers l present).map fun i => (i, 16384)
  else if l.lfeToMains then [(0, 8192), (1, 8192)]
  else []

/-- The coefficients of a lane in DIRECT by its label (R54, R55). -/
def directRow (l : Layout) (present : List (Fin 12)) (p : Label) : Row :=
  match p with
  | .lfe => lfeRow l present
  | .unassigned => []
  | _ =>
    orElse l present p <|
      match p with
      | .c => [(0, 11585), (1, 11585)]
      | .sl => foldSide l present .bl 0
      | .sr => foldSide l present .br 1
      | .bl => foldSide l present .sl 0
      | .br => foldSide l present .sr 1
      | .tfl => [(0, 11585)]
      | .tfr => [(1, 11585)]
      | .trl => foldTopRear l present .tfl .sl .bl 0
      | .trr => foldTopRear l present .tfr .sr .br 1
      | _ => []

/-- The zone downmix of a label: its L and its R coefficient (R60). -/
def zoneCoefs (p : Label) : Int × Int :=
  match p with
  | .fl => (16384, 0)
  | .fr => (0, 16384)
  | .c => (11585, 11585)
  | .sl | .bl | .tfl | .trl => (11585, 0)
  | .sr | .br | .tfr | .trr => (0, 11585)
  | .lfe | .sw1 | .sw2 | .unassigned => (0, 0)

/-- The coefficients of a lane in STEREO (R56). -/
def stereoRow (p : Label) : Row := [(0, (zoneCoefs p).1), (1, (zoneCoefs p).2)]

/-- The placement of one surround signal (R63). -/
def surroundRow (l : Layout) (present : List (Fin 12)) (side back : Label) (front : Fin 12) : Row :=
  match slotAt l present side, slotAt l present back with
  | some i, some j => [(i, 16384), (j, 11585)]
  | some i, none => [(i, 16384)]
  | none, some j => [(j, 16384)]
  | none, none => [(front, 11585)]

/-- The placement of the five steered signals L − C′, R − C′, C′, S, −S (R63). -/
def feedRow (l : Layout) (present : List (Fin 12)) (k : Fin 5) : Row :=
  match k with
  | 0 => [(0, 16384)]
  | 1 => [(1, 16384)]
  | 2 => orElse l present .c [(0, 11585), (1, 11585)]
  | 3 => surroundRow l present .sl .bl 0
  | 4 => surroundRow l present .sr .br 1

/-- A row as coefficients of the twelve slots; contributions to one slot add (R54), and a slot that is not present has 0
(R52). -/
def rowTable (present : List (Fin 12)) (r : Row) : Table Int 12 :=
  Table.tabulate fun i =>
    if i ∈ present then (r.filter fun p => decide (p.1 = i)).foldl (fun acc p => acc + p.2) 0 else 0

/-- The label of a source channel; a channel at or above the count has none (R24, R52). -/
def channelLabel (x : Source) (k : Nat) : Label := if k < x.count then x.layout.getD k .unassigned else .unassigned

/-- The matrix of a source in an effective mode (R52, R54, R56, R63). -/
def deriveMatrix (mode : RenderMode) (x : Source) (r : Renderer) : Renderer :=
  { r with
    lanes := Table.tabulate fun k =>
      match mode with
      | .direct => rowTable r.present (directRow r.inForce r.present (channelLabel x k.1))
      | .stereo => rowTable r.present (stereoRow (channelLabel x k.1))
      | _ => Table.fill 12 0
    feeds := Table.tabulate fun k =>
      match mode with
      | .matrix => rowTable r.present (feedRow r.inForce r.present k)
      | _ => Table.fill 12 0 }

/-- The steering accumulators return to 0 and c and sg to 8,192 (R62). -/
def resetSteering (r : Renderer) : Renderer :=
  { r with energySum := 0, energyDiff := 0, steerC := 8192, steerS := 8192 }

/-- The mode that MAIN asks for with a source attached (R50). -/
def requestedMode (r : Renderer) (x : Source) : RenderMode := r.override.getD x.mode

/-- A derivation of MAIN's matrix for a source (R57); the effective mode goes into the route record (R25). The record stays
with the renderer until MAIN has no source (log entry 19). -/
def deriveMain (x : Source) (s : State) : State :=
  let mode := effectiveMode (requestedMode s.render x) x.count
  (s.onRender fun r => { resetSteering (deriveMatrix mode x r) with attached := some x }).onRoute .main fun m =>
    { m with effMode := some mode }

/-- MAIN has no source: the matrix is all zero (R52, R57). -/
def clearMatrix (s : State) : State :=
  s.onRender fun r => { r with attached := none, lanes := State.zeroMatrix 8, feeds := State.zeroMatrix 5 }

/-- The zone downmix of a source (R60). -/
def deriveZone (x : Source) (s : State) : State :=
  s.onRender fun r => { r with zoneMix := Table.tabulate fun k => zoneCoefs (channelLabel x k.1) }

def clearZoneMix (s : State) : State := s.onRender fun r => { r with zoneMix := Table.fill 8 (0, 0) }

/-- Whether MAIN has a source attached: its converter has an input exactly then (R27, R38). -/
def State.mainAttached (s : State) : Bool := s.main.conv.input.isSome

/-- The derivation for the source attached to MAIN, if there is one (R49 step 5, R57). -/
def rederive (s : State) : State :=
  match s.render.attached with
  | some x => if s.mainAttached then deriveMain x s else s
  | none => s

/-! ## Steering (R62) -/

/-- One update of an accumulator: E + floor((P − E) / 2^k), never negative. -/
def steerEnergy (k e p : Nat) : Nat := ((e : Int) + ((p : Int) - e) / (2 ^ k : Nat)).toNat

/-- σ of the two accumulators. -/
def steerSigma (es ed : Nat) : Nat := if es + ed = 0 then 8192 else 16384 * es / (es + ed)

/-- The steering update at the end of a block in MATRIX (R62). -/
def steeringUpdate (s : State) : State :=
  let r := s.render
  let es := steerEnergy r.steerRate r.energySum r.blockSum
  let ed := steerEnergy r.steerRate r.energyDiff r.blockDiff
  if s.mainAttached ∧ s.main.effMode = some .matrix then
    s.onRender fun r =>
      { r with
        energySum := es
        energyDiff := ed
        steerC := steerSigma es ed
        steerS := 16384 - steerSigma es ed
        blockSum := 0
        blockDiff := 0 }
  else s.onRender fun r => { r with blockSum := 0, blockDiff := 0 }

end Sys2Proof.Machine
end

