-- ==== Sys2Proof/Machine/Measure.lean ====
section
/-! DEFINITION. The measurement unit (chapter 6), but for what gives MAIN back: its notices, the takeover, the working
record fed by MIC samples, the values of a repetition, the slot result, and the reaction to a group that leaves ON. -/

namespace Sys2Proof.Machine

def State.onRun (s : State) (f : Run → Run) : State := s.onMeasure fun m => { m with run := m.run.map f }

def State.runState (s : State) : Option RunState := s.measure.run.map (·.state)

/-! ## Notices (R132, R198) -/

/-- A MEASURE notice with reason RUN_STATE: the run state, the slot mask and the burst level. -/
def runNotice (st : Option RunState) (r : Run) (s : State) : State :=
  emit .measure ([0, runStateCode st] ++ u16 (maskOf r.mask) ++ s16 r.burst) s

/-- A MEASURE notice with reason SLOT_RESULT. -/
def slotNotice (i : Fin 12) (burst : Int) (s : State) : State :=
  emit .measure ([1, number i] ++ resultBytes (s.measure.results.get i) ++ s16 burst) s

/-! ## Results (R116, R126) -/

def setResult (i : Fin 12) (x : Result) (s : State) : State :=
  s.onMeasure fun m => { m with results := m.results.set i x }

/-- A record without measured values. -/
def bareResult (st : ResultStatus) : Result := ⟨st, none, false⟩

/-- Each slot of a list takes a bare result. -/
def setResults (l : List (Fin 12)) (st : ResultStatus) (s : State) : State :=
  l.foldl (fun u i => setResult i (bareResult st) u) s

/-- The outcome so far after a slot that is not OK (R126); an abort stands. -/
def degrade (o : RunOutcome) : RunOutcome := if o = .aborted then .aborted else .degraded

/-- A slot is finished with a result (R126): the record, the outcome so far and a SLOT_RESULT notice. The slot is no longer
the current one. -/
def finishSlot (i : Fin 12) (x : Result) (s : State) : State :=
  let t := (setResult i x s).onRun fun r =>
    { r with probe := none, outcome := if x.status = .ok then r.outcome else degrade r.outcome }
  match s.measure.run with
  | some r => slotNotice i r.burst t
  | none => t

/-- The unit takes a group state event (R125): the current slot is finished as FAULTED when its group has left ON. -/
def measureGroupEvent (g : Fin 6) (s : State) : State :=
  match s.measure.run.bind (·.probe) with
  | some p =>
    if groupOf p.slot = g ∧ (s.group g).state ≠ .on then finishSlot p.slot (bareResult .faulted) (withdrawBurst s) else s
  | none => s

/-! ## The takeover (R118) -/

/-- MAIN-taken: a run in PREPARING enters PROBING with the slots that are still present; the others are SKIPPED
and make the outcome DEGRADED (log entry 20). -/
def mainTaken (s : State) : State :=
  match s.measure.run with
  | some r =>
    if r.state = .preparing then
      let kept := r.mask.filter fun i => s.isPresent i
      let lost := r.mask.filter fun i => !s.isPresent i
      let r' := { r with
        state := .probing, mask := kept, todo := kept
        outcome := if lost = [] then r.outcome else degrade r.outcome }
      runNotice (some .probing) r' ((setResults lost .skipped s).onRun fun _ => r')
    else s
  | none => s

/-! ## Levels (R120, R123) -/

/-- round(60 × log2 p) for p ≥ 1: the n with 2^(2n − 1) ≤ p^120 < 2^(2n + 1). -/
def logTenths (p : Nat) : Nat := (Nat.log2 (p ^ 120) + 1) / 2

/-- The ambient level of a peak (R120). -/
def ambientLevel (peak : Nat) (correction : Int) : Int :=
  if peak = 0 then -1000 else clampInt (-1000) 100 ((logTenths peak : Int) - 1380 + correction)

/-- The level of a sum of squares over 960 frames (R123): round(30 × log2(S / 960)) − 1,380. A mean square below 1 is
below the clamp whatever the correction. -/
def burstMeasured (sum : Nat) (correction : Int) : Int :=
  if sum < 960 then -1000
  else clampInt (-1000) 100 (((Nat.log2 (sum ^ 60 / 960 ^ 60) + 1) / 2 : Nat) - 1380 + correction)

/-- The threshold of a repetition (R120). -/
def probeThreshold (peak : Nat) : Nat := max (4 * peak) 4096

/-! ## MIC samples (R120, R122, R124) -/

/-- One trimmed MIC sample taken by the phase of a probe: the peak in AMBIENT; arrival, sign and sum of squares in
LISTEN. A phase takes no more frames than it can last. -/
def probeSample (y : Int) (clip : Bool) (p : Probe) : Probe :=
  match p.phase with
  | .ambient => if p.frame < 4800 then { p with peak := max p.peak y.natAbs, frame := p.frame + 1 } else p
  | .listen =>
    if p.frame < 3840 then
      let arrived := if p.arrival = none ∧ p.frame < 2880 ∧ p.threshold ≤ y.natAbs then some p.frame else p.arrival
      { p with
        frame := p.frame + 1
        arrival := arrived
        negative := if p.arrival = none ∧ arrived ≠ none then decide (y < 0) else p.negative
        sumSquares :=
          match arrived with
          | some t => if p.frame < t + 960 then p.sumSquares + y.natAbs ^ 2 else p.sumSquares
          | none => p.sumSquares
        clipped := p.clipped || clip }
    else p

/-- The measurement unit takes a trimmed MIC sample, with the clip event if it clipped. -/
def measureSample (y : Int) (clip : Bool) (s : State) : State :=
  s.onRun fun r => { r with probe := r.probe.map (probeSample y clip) }

/-- A fresh working record for a repetition of a slot, in its ambient phase (R120). -/
def startRepetition (i : Fin 12) (k : Nat) (used : Bool) (done : List Repetition) : Probe where
  slot := i
  repetition := k
  repeatUsed := used
  phase := .ambient
  frame := 0
  peak := 0
  ambient := -1000
  threshold := 0
  arrival := none
  sumSquares := 0
  negative := false
  clipped := false
  finished := done

/-- The frame of the listen phase at which it ends (R122). -/
def listenEnd (p : Probe) : Nat :=
  match p.arrival with
  | some t => max 2880 (t + 960)
  | none => 2880

/-- The values of a finished repetition (R123): Δ is the arrival less the chain latency, not below 0. -/
def repetitionOf (r : Run) (p : Probe) : Repetition where
  arrival := p.arrival.map fun t => (t - r.latency, burstMeasured p.sumSquares r.correction, p.negative)
  ambient := p.ambient
  clipped := p.clipped

/-! ## The slot result (R126, R127) -/

/-- The distance of a Δ (R127). -/
def distanceOf (delta : Nat) : Nat := clampNat 0 1800 (roundDiv (delta * 34300) 48000).toNat

/-- The mean of a list, rounded (R126). -/
def roundedMean (l : List Int) : Int := roundDiv l.sum l.length

/-- Whether repetitions with arrivals `arr` out of `reps` are NOISY at level `level` (R126). -/
def noisy (reps : List Repetition) (arr : List (Nat × Int × Bool)) (level : Int) : Bool :=
  decide (arr.length ≠ reps.length)
    || decide (48 < (arr.map (·.1)).foldl max 0 - (arr.map (·.1)).foldl min ((arr.map (·.1)).headD 0))
    || (arr.any (·.2.2) && arr.any fun a => !a.2.2)
    || reps.any fun r => decide (level - 100 ≤ r.ambient)

/-- The result of a slot from its finished repetitions, in order (R126). -/
def slotResult (reps : List Repetition) : Result :=
  match reps.filterMap (·.arrival) with
  | [] => bareResult .absent
  | first :: more =>
    let arr := first :: more
    let delta := (roundedMean (arr.map fun a => (a.1 : Int))).toNat
    let level := roundedMean (arr.map (·.2.1))
    let status :=
      if reps.any fun r => r.clipped && r.arrival.isSome then ResultStatus.clipped
      else if noisy reps arr level then .noisy
      else .ok
    ⟨status, some (distanceOf delta, level, first.2.2), false⟩

/-! ## The end of a run (R128) -/

/-- The level of a slot's result when it is OK or NOISY. -/
def usableLevel (x : Result) : Option Int := if x.status = .ok ∨ x.status = .noisy then x.measured.map (·.2.1) else none

/-- The reference level (R128). -/
def referenceLevel (r : Run) (results : Table Result 12) : Option Int :=
  match (if r.reference ∈ r.mask then usableLevel (results.get r.reference) else none) with
  | some v => some v
  | none =>
    (r.mask.find? fun i => decide ((results.get i).status = .ok)).bind fun i => usableLevel (results.get i)

/-- The trim of a slot against the reference, before the clamp. -/
def rawTrim (ref : Option Int) (x : Result) : Option Int :=
  match ref, usableLevel x with
  | some v, some l => some (v - l)
  | _, _ => none

/-- TRIM_LIMIT of a slot of the mask (R128). -/
def trimLimited (ref : Option Int) (x : Result) : Bool :=
  match rawTrim ref x with
  | some v => decide (clampInt (-120) 120 v ≠ v)
  | none => x.trimLimit

/-- The apply writes distance, polarity and, with a reference level, trim into a pending half (R128). -/
def stageHalf (ref : Option Int) (x : Result) (h : Half) : Half :=
  match usableLevel x, x.measured with
  | some _, some (d, _, inv) =>
    { distance := d, trim := ((rawTrim ref x).map (clampInt (-120) 120)).getD h.trim, inverted := inv }
  | _, _ => h

/-- The trims and the apply at the end of a run (R128). -/
def applyResults (r : Run) (s : State) : State :=
  let ref := referenceLevel r s.measure.results
  let usable (i : Fin 12) : Bool := decide (i ∈ r.mask) && (usableLevel (s.measure.results.get i)).isSome
  let t := s.onMeasure fun m =>
    { m with results := m.results.mapIdx fun i x => if usable i then { x with trimLimit := trimLimited ref x } else x }
  match r.apply with
  | .none => t
  | _ => t.onGain fun g =>
    { g with
      channels := g.channels.mapIdx fun i c =>
        if usable i then
          { c with
            pending := stageHalf ref (s.measure.results.get i) c.pending
            marked := c.marked || decide (r.apply = .stageAndLoad) }
        else c }

end Sys2Proof.Machine
end

