-- ==== Sys2Proof/Machine/Protect.lean ====
section
/-! DEFINITION. The protection unit (chapter 5): the enable lines, the start queue, faults, temperatures, the needed flags
and the PROTECT notices. -/

namespace Sys2Proof.Machine

/-! ## Notices (R110, R198) -/

/-- The reason of the PROTECT notice that a change of a group record calls for, if it calls for one: STATE 0,
SENSOR 2, ATTENUATION 1, in this order of precedence (R110). -/
def protectReason (before after : Group) : Option Byte :=
  if after.state ≠ before.state ∨ (before.cause = .current ∧ after.cause = .thermal) then some 0
  else if after.sensorLost ≠ before.sensorLost then some 2
  else if after.attenuation ≠ before.attenuation ∧ 10 ≤ (after.attenuation - after.reported).natAbs then some 1
  else none

def protectBody (g : Fin 6) (reason : Byte) (x : Group) : List Byte :=
  [reason, number g, groupStateCode x.state, groupCauseCode x.cause] ++ u8 x.faultCount ++ s16 x.attenuation
    ++ optional 1 (x.lastTemp.map s8) ++ [flagCode x.sensorLost]

/-- The notice of an event that found the group as `before`; the attenuation it carries becomes the reported one, also
when the notice is masked or dropped (R110). -/
def protectReport (g : Fin 6) (before : Group) (s : State) : State :=
  match protectReason before (s.group g) with
  | some reason =>
    (emit .protect (protectBody g reason (s.group g)) s).onGroup g fun x => { x with reported := x.attenuation }
  | none => s

/-- An event of one group: its changes, then one notice of them (R110). -/
def groupEvent (g : Fin 6) (f : State → State) (s : State) : State := protectReport g (s.group g) (f s)

/-- An event of several groups: its changes, then one notice for each group that they call for (R110). DESIGN CHOICE (log entry
12): these notices are queued in group order, which no rule states. -/
def groupsEvent (f : State → State) (s : State) : State :=
  allGroups.foldl (fun u g => protectReport g (s.group g) u) (f s)

/-! ## The enable line (R95) -/

/-- The enable line is driven; each change of level arms a 1 ms readback check. -/
def drive (g : Fin 6) (level : Bool) (s : State) : State :=
  if (s.group g).driven = level then s
  else s.onGroup g fun x => { x with driven := level, readback := x.readback ++ [s.now + 1] }

/-- A group on the start list has finished its attempt at ON, FAULT_WAIT or LATCHED (R98). -/
def markFinished (g : Fin 6) (s : State) : State :=
  s.onProtect fun p =>
    { p with startList := p.startList.map fun l => l.map fun e => if e.1 = g then (e.1, true) else e }

def attemptOver (st : GroupState) : Bool := decide (st = .on) || decide (st = .faultWait) || decide (st = .latched)

/-- The state of a group changes; the gain unit and the measurement unit take the group state event of an entry to ON or
an exit from ON (R108). -/
def setGroupState (g : Fin 6) (st : GroupState) (s : State) : State :=
  let wasOn := decide ((s.group g).state = .on)
  let t := s.onGroup g fun x => { x with state := st }
  let u := if wasOn ≠ decide (st = .on) then measureGroupEvent g (gainGroupEvent g t) else t
  if attemptOver st then markFinished g u else u

/-! ## The start queue (R96, R97) -/

def leaveQueue (g : Fin 6) (s : State) : State :=
  s.onProtect fun p => { p with startQueue := p.startQueue.filter fun h => decide (h ≠ g) }

/-- A group is started (R97). -/
def startGroup (g : Fin 6) (s : State) : State :=
  let t := (leaveQueue g s).onProtect fun p => { p with lastStart := some s.now }
  setGroupState g .powering <| (drive g true t).onGroup g fun x =>
    { x with cause := .none, settle := some (s.now + 200), retry := none }

/-- A group joins the start queue; with the spacing timer stopped it is started at once, unless a start was made in the
50 ms before (R96). -/
def joinQueue (g : Fin 6) (s : State) : State :=
  let t := s.onProtect fun p => { p with startQueue := insertIndex g p.startQueue }
  match s.protect.spacing, s.protect.lastStart with
  | some _, _ => t
  | none, some at0 => if s.now < at0 + 50 then t.onProtect fun p => { p with spacing := some (at0 + 50) } else startGroup g t
  | none, none => startGroup g t

/-- The spacing timer has expired (R96). -/
def spacingExpired (s : State) : State :=
  let t := s.onProtect fun p => { p with spacing := none }
  match t.protect.startQueue with
  | [] => t
  | g :: rest =>
    let u := groupEvent g (startGroup g) t
    if rest = [] then u else u.onProtect fun p => { p with spacing := some (s.now + 50) }

/-! ## Leaving service -/

/-- A group goes to OFF when it ceases to be needed or is powered down (R99, R100). -/
def turnOff (g : Fin 6) (s : State) : State :=
  setGroupState g .off <| (drive g false (leaveQueue g s)).onGroup g fun x => { x with settle := none, retry := none }

/-- A line fault (R95): the group latches with cause LINE. -/
def lineFault (g : Fin 6) (s : State) : State :=
  setGroupState g .latched <| muteGroup g <| (drive g false (leaveQueue g s)).onGroup g fun x =>
    { x with cause := .line, settle := none, retry := none, window := none }

/-- A readback check of a level (R95); no check is made of a LATCHED group. -/
def readback (g : Fin 6) (level : Bool) (s : State) : State :=
  if (s.group g).state ≠ .latched ∧ level ≠ (s.group g).driven then lineFault g s else s

/-- A counted current fault (R101, R102). -/
def countedFault (g : Fin 6) (s : State) : State :=
  let n := (s.group g).faultCount + 1
  let latch := decide (s.protect.settings.limit ≤ n)
  setGroupState g (if latch then .latched else .faultWait) <| muteGroup g <| (drive g false s).onGroup g fun x =>
    { x with
      cause := .current
      faultCount := n
      currentFaults := count16 x.currentFaults
      windowStart := some (x.windowStart.getD s.now)
      window := if latch then none else if x.windowStart = none then some (s.now + 60000) else x.window
      settle := none
      retry := if latch then none else some (s.now + 2000)
      debounceEnd := s.now + s.protect.settings.debounce }

/-- The retry of a group in FAULT_WAIT: it joins the start queue in WAKING and RUNNING and waits in QUIETING (R103). -/
def retryGroup (g : Fin 6) (s : State) : State :=
  if s.link.opState = .waking ∨ s.link.opState = .running then joinQueue g s else s

/-! ## Temperature (R105 to R107) -/

/-- The attenuation after a good poll (R105). -/
def attenuate (p : ProtectSettings) (theta a : Int) : Int :=
  if (p.warn : Int) ≤ theta then max p.floor (a - 10)
  else if theta < (p.warn : Int) - p.margin then min 0 (a + 5)
  else a

/-- A thermal trip (R106). -/
def thermalTrip (g : Fin 6) (s : State) : State :=
  let t := s.onGroup g fun x => { x with thermalTrips := count16 x.thermalTrips, coolSeen := false }
  match (s.group g).state with
  | .powering | .on =>
    setGroupState g .faultWait <| muteGroup g <| (drive g false t).onGroup g fun x =>
      { x with cause := .thermal, settle := none, retry := some (s.now + 2000) }
  | .faultWait =>
    let queued := decide (g ∈ s.protect.startQueue)
    (leaveQueue g t).onGroup g fun x =>
      { x with cause := .thermal, retry := if queued then some (s.now + 2000) else x.retry }
  | _ => t

/-- The record after a good poll (R105); while it waits with cause THERMAL the poll sets or clears cool-seen (R106). -/
def pollRecord (p : ProtectSettings) (theta : Int) (x : Group) : Group :=
  { x with
    failRun := 0
    sensorLost := false
    lastTemp := some theta
    attenuation := attenuate p theta x.attenuation
    coolSeen :=
      if x.state = .faultWait ∧ x.cause = .thermal then decide (theta < (p.warn : Int) - p.margin) else x.coolSeen }

/-- Whether a group in FAULT_WAIT with cause THERMAL retries: its timer has expired and cool-seen is set (R106). -/
def thermalRetryDue (x : Group) : Bool :=
  decide (x.state = .faultWait) && decide (x.cause = .thermal) && x.coolSeen && decide (x.retry = none)

/-- A good poll (R105, R106): the record, then a trip or the retry that it releases. -/
def goodPoll (g : Fin 6) (theta : Int) (s : State) : State :=
  let t := s.onGroup g (pollRecord s.protect.settings theta)
  let u := if (s.protect.settings.trip : Int) ≤ theta then thermalTrip g t else t
  if thermalRetryDue (u.group g) then retryGroup g u else u

/-- A failed poll (R107). -/
def failedPoll (g : Fin 6) (s : State) : State :=
  s.onGroup g fun x =>
    let n := count16 x.failRun
    { x with
      failRun := n
      pollFailures := count16 x.pollFailures
      sensorLost := x.sensorLost || decide (n = 3)
      attenuation := if n = 3 then s.protect.settings.floor else x.attenuation }

/-- The outcome of a poll of a group (R105, R107). -/
def takePoll (g : Fin 6) (o : BusOutcome) (s : State) : State :=
  match o with
  | .done bytes => goodPoll g ((byteAt bytes 0 ++ byteAt bytes 1 : Word16).toInt / 256) s
  | _ => failedPoll g s

/-- The outcome of a poll is returned, and taken for the group it was posted for (R104, R105, R107). -/
def pollOutcome (o : BusOutcome) (s : State) : State :=
  match s.protect.polling with
  | none => s
  | some g => groupEvent g (takePoll g o) (s.onProtect fun p => { p with polling := none })

/-- The next group with a sensor in the cyclic order G1 to G6, after the group polled last (R104). -/
def nextPolled (p : Protect) : Option (Fin 6) :=
  let from0 := match p.lastPolled with
    | some g => g.1 + 1
    | none => 0
  ([0, 1, 2, 3, 4, 5].map fun k => (⟨(from0 + k) % 6, by omega⟩ : Fin 6)).find? fun g => (p.groups.get g).sensor.isSome

/-! ## Needed flags (R94, R98, R100) -/

/-- Whether a group is needed (R94). -/
def neededNow (s : State) (g : Fin 6) : Bool :=
  s.render.present.any (fun i => decide (groupOf i = g)) || (decide (g = 3) && s.protect.zoneInForce)

/-- A group joins the start list of the WAKING (again), its attempt finished or not (R98, R114). -/
def joinStartList (g : Fin 6) (finished : Bool) (s : State) : State :=
  s.onProtect fun p =>
    { p with
      startList := p.startList.map fun l => l.filter (fun e => decide (e.1 ≠ g)) ++ [(g, finished)]
      leftFinished := p.leftFinished.filter fun h => decide (h ≠ g) }

/-- A group leaves the start list; one that has finished stays so for the rest of the WAKING (R98). -/
def leaveStartList (g : Fin 6) (s : State) : State :=
  s.onProtect fun p =>
    { p with
      startList := p.startList.map fun l => l.filter fun e => decide (e.1 ≠ g)
      leftFinished := if p.startList.any (fun l => l.contains (g, true)) then insertIndex g p.leftFinished else p.leftFinished }

/-- Whether a group that joins the start list again has finished its attempt in this WAKING (R98). -/
def finishedBefore (s : State) (g : Fin 6) : Bool :=
  attemptOver (s.group g).state || s.protect.leftFinished.contains g

/-- A group has become needed in WAKING or RUNNING (R98, R100). -/
def becomeNeeded (g : Fin 6) (s : State) : State :=
  let t :=
    if s.link.opState = .waking ∧ (s.group g).state ≠ .latched then joinStartList g (finishedBefore s g) s else s
  if (s.group g).state = .off then joinQueue g t else t

/-- A group has ceased to be needed in WAKING or RUNNING. -/
def ceaseNeeded (g : Fin 6) (s : State) : State :=
  let t := leaveQueue g (leaveStartList g s)
  match (s.group g).state with
  | .powering | .on | .faultWait => turnOff g t
  | _ => t

/-- One group's needed flag is computed; a change acts by the operating state (R94, R98, R100). -/
def refreshNeeded (g : Fin 6) (s : State) : State :=
  let n := neededNow s g
  if (s.group g).needed = n then s
  else
    let t := s.onGroup g fun x => { x with needed := n }
    if s.link.opState = .waking ∨ s.link.opState = .running then
      if n then becomeNeeded g t else ceaseNeeded g t
    else t

/-- Every needed flag is computed, in group order. DESIGN CHOICE (log entry 15): so several groups that become needed at one
re-layout point join the start queue in group order, of which R100 says nothing: the lowest is started at once and the
others wait. -/
def refreshAllNeeded : State → State := groupsEvent fun s => allGroups.foldl (fun u g => refreshNeeded g u) s

/-! ## Wake, quiet and power-down (R98, R99, R104) -/

/-- The groups of a start list formed now (R98). -/
def startCandidates (s : State) : List (Fin 6) :=
  allGroups.filter fun g => (s.group g).needed && decide ((s.group g).state ≠ .latched)

/-- The waking event (R98): the start list is formed, its OFF groups join the start queue, and the poll tick begins. -/
def wakingEvent (s : State) : State :=
  let l := startCandidates s
  let t := s.onProtect fun p =>
    { p with
      tick := some (s.now + 100)
      startList := some (l.map fun g => (g, attemptOver (s.group g).state))
      leftFinished := [] }
  groupsEvent (fun u => l.foldl (fun v g => if (v.group g).state = .off then joinQueue g v else v) u) t

/-- Whether every group on the start list has finished (R98). -/
def startListDone (s : State) : Bool :=
  match s.protect.startList with
  | some l => l.all (·.2)
  | none => false

/-- The needed groups that are not ON (R98, R185). -/
def neededNotOn (s : State) : List (Fin 6) :=
  allGroups.filter fun g => (s.group g).needed && decide ((s.group g).state ≠ .on)

/-- The quiet event at the protection unit (R98, R99). -/
def protectQuiet (s : State) : State :=
  s.onProtect fun p => { p with startQueue := [], spacing := none, startList := none, leftFinished := [] }

/-- The power-down event (R99). -/
def powerDown (s : State) : State :=
  groupsEvent
    (fun t =>
      allGroups.foldl
        (fun u g =>
          match (u.group g).state with
          | .powering | .on | .faultWait => turnOff g u
          | _ => u)
        t)
    (s.onProtect fun p => { p with startQueue := [], spacing := none })

end Sys2Proof.Machine
end

