-- ==== Sys2Proof/Machine/Routes.lean ====
section
/-! DEFINITION. The route controller (chapter 2): the judgement of a source, attach, fades and their completions, re-layout,
the measurement takeover and release, quiet and running, and what the ports and the tuner do to a route. -/

namespace Sys2Proof.Machine

/-! ## Notices (R41) -/

/-- Whether a change of the route record calls for a ROUTE_STATE notice (R41). -/
def routeChanged (before after : Route) : Bool :=
  decide (before.state ≠ after.state) || decide (before.selected ≠ after.selected)
    || decide (before.pending ≠ after.pending) || decide (before.purpose ≠ after.purpose)
    || decide (before.reason ≠ after.reason) || decide (before.degraded ≠ after.degraded)
    || decide (before.limited ≠ after.limited) || decide (before.effMode ≠ after.effMode)

def routeReport (r : RouteId) (before : Route) (s : State) : State :=
  if routeChanged before (s.route r) then emit .route (0 :: routeBytes r (s.route r)) s else s

/-- An event at the route controller: its changes, then one ROUTE notice for each route that it changed (R41). DESIGN CHOICE
(log entry 12): the ROUTE notices stand after the MEASURE notice of MAIN-taken and the PROTECT notices of a re-layout point
that the same event makes. -/
def routeEvent (f : State → State) (s : State) : State :=
  routeReport .zone s.zone (routeReport .main s.main (f s))

/-! ## Playability (R26) -/

/-- Why a source may not play; nothing when it is playable (R26, in its order). -/
def judge (s : State) (i : Fin 12) : Option Reason :=
  let x := s.source i
  let p := s.port x.port
  if x.tunerBound ∧ s.tuner.state ≠ .listening then some .tunerBusy
  else if x.enabled = false then some .sourceDisabled
  else if p.lock ≠ .locked then some .noLock
  else if p.nonAudio then some .bitstream
  else none

/-! ## Re-layout (R33, R49, R109) -/

/-- The present set: the present slots in slot order with the position of each (R48). -/
def presentSet (r : Renderer) : List (Fin 12 × Label) := r.present.map fun i => (i, (r.inForce.slots.get i).position)

/-- Present-set-changed at the gain unit: the allocation is computed when the present set was another one (R48, R82). -/
def takePresentSet (old : List (Fin 12 × Label)) (s : State) : State :=
  if presentSet s.render = old then s else allocate s

/-- The re-layout point: the requested layout and zone assignment are put in force by the renderer, the gain unit and the
protection unit. -/
def relayoutPoint (s : State) : State :=
  let z := s.protect.zoneRequested
  let t := s.onRender fun r =>
    { r with
      inForce := r.requested
      present := presentSlots r.requested z
      bass := bassTable r.requested (presentSlots r.requested z)
      zoneFeed := z }
  let u := (t.onGain fun g => { g with zoneAssigned := z }).onProtect fun p => { p with zoneInForce := z }
  let v := rederive (u.onRoute .main fun m => { m with relayoutDue := false })
  refreshAllNeeded (refreshCoefs (takePresentSet (presentSet s.render) v))

/-- The re-layout point, if it is due. -/
def relayoutIfDue (s : State) : State := if s.main.relayoutDue then relayoutPoint s else s

/-! ## Attach (R27) -/

/-- The renderer and the gain unit are told that a route has no source (R27, R57, R60, R82). -/
def noSource (r : RouteId) (s : State) : State :=
  match r with
  | .main => allocate ((clearMatrix s).onGain fun g => { g with mainTrim := 0, mainLip := 0 })
  | .zone => (clearZoneMix s).onGain fun g => { g with zoneTrim := 0 }

/-- A route becomes SILENT with a selection and a reason; its converter goes to IDLE. -/
def silence (r : RouteId) (sel : Option (Fin 12)) (reason : Option Reason) (s : State) : State :=
  noSource r <| s.onRoute r fun x =>
    { x with
      state := .silent, selected := sel, pending := none, purpose := none, reason := reason, degraded := false
      conv := { x.conv with state := .idle, input := none, fifo := [], given := [] } }

/-- The base step of a period count (R39): an A port runs at ratio 1, and a count of 0 gives a free value (log entry 3). -/
def baseStepOf (s : State) (p : Fin 10) : Nat :=
  if 6 ≤ p.1 then 2 ^ 24
  else if (s.port p).period = 0 then Config.freeBaseStep s.free
  else (roundDiv (2 ^ 39) (s.port p).period).toNat

/-- The converter at the attach of a source (R27, R38, R39). -/
def attachConverter (s : State) (x : Source) (c : Converter) : Converter :=
  { c with
    state := if (s.port x.port).lock = .locked then .filling else .suspended
    input := some ⟨x.port, x.first, x.count, x.swap⟩
    fifo := []
    given := []
    phase := 0
    baseStep := baseStepOf s x.port
    step := baseStepOf s x.port }

/-- What the renderer and the gain unit take at an attach (R27, R57, R60, R73, R82). -/
def takeSource (r : RouteId) (x : Source) (s : State) : State :=
  match r with
  | .main => allocate ((deriveMain x s).onGain fun g => { g with mainTrim := x.trim, mainLip := x.lipsync })
  | .zone => (deriveZone x s).onGain fun g => { g with zoneTrim := x.trim }

/-- A source is attached to a route (R27); a re-layout point that is due on MAIN comes first (R33). -/
def attach (r : RouteId) (sel : Option (Fin 12)) (s0 : State) : State :=
  let s := match r with
    | .main => relayoutIfDue s0
    | .zone => s0
  match sel with
  | none => silence r none none s
  | some i =>
    let x := s.source i
    let p := s.port x.port
    let why := judge s i
    takeSource r x <| s.drawFree.onRoute r fun m =>
      { m with
        state := if why = none then .playing else .waiting
        selected := some i
        pending := none
        purpose := none
        reason := why
        degraded := decide (p.lock = .locked) && decide (p.channels < x.first + x.count)
        conv := attachConverter s x m.conv }

/-! ## Fades (R28, R29) -/

/-- A route enters FADING_OUT. -/
def enterFade (r : RouteId) (why : Purpose) (pending : Option (Option (Fin 12))) (s : State) : State :=
  s.onRoute r fun x => { x with state := .fadingOut, purpose := some why, pending := pending, reason := none }

/-- MAIN enters MEASURE (R29, R34): its matrix is all zero and no source is attached. A pending source stays. The
measurement unit takes MAIN-taken (R118). DESIGN CHOICE (log entry 14): DEGRADED is cleared also where a WAITING MAIN enters
at once, of which R34 says nothing. -/
def enterMeasure (s : State) : State :=
  let t := s.onRoute .main fun x =>
    { x with
      state := .measure, purpose := none, reason := none, degraded := false
      conv := { x.conv with state := .idle, input := none, fifo := [], given := [] } }
  mainTaken ((clearMatrix t).onGain fun g => { g with mainTrim := 0, mainLip := 0 })

/-- NOT_RUNNING for a SILENT route with a selection (R26). -/
def heldReason (sel : Option (Fin 12)) : Option Reason := sel.map fun _ => .notRunning

/-- The fade-out completion of a route (R29). -/
def fadeComplete (r : RouteId) (s0 : State) : State :=
  if (s0.route r).state ≠ .fadingOut then s0
  else
    let s := match r with
      | .main => relayoutIfDue s0
      | .zone => s0
    let x := s.route r
    match x.purpose with
    | some .switch => attach r (x.pending.getD x.selected) s
    | some .relayout | some .hold | none => attach r x.selected s
    | some .standby => silence r (x.pending.getD x.selected) (heldReason (x.pending.getD x.selected)) s
    | some .measure => enterMeasure s

/-- The completion check of a boundary (R28, R76 step 5). -/
def fadeCheck (r : RouteId) (s : State) : State :=
  if (s.route r).state = .fadingOut ∧ routeFaded s r = true then routeEvent (fadeComplete r) s else s

/-! ## Ports (R30) -/

/-- Whether a route has a source of port `p` selected while it has one attached. -/
def onPortNow (s : State) (r : RouteId) (p : Fin 10) : Bool :=
  match (s.route r).selected with
  | some i => decide ((s.source i).port = p)
  | none => false

/-- A WAITING route's reason is judged again; a playable source is re-attached when `again` allows it (R30, R31). -/
def rejudge (r : RouteId) (again : Bool) (s : State) : State :=
  match (s.route r).selected with
  | some i =>
    match judge s i with
    | some why => s.onRoute r fun x => { x with reason := some why }
    | none => if again then attach r (some i) s else s
  | none => s

/-- Each converter whose input is the port is changed. -/
def onInput (p : Fin 10) (f : Converter → Converter) (s : State) : State :=
  [RouteId.main, .zone].foldl
    (fun u r => if (u.route r).conv.input.map (·.port) = some p then u.onConv r f else u) s

def suspend (c : Converter) : Converter := { c with state := .suspended, fifo := [], given := [] }

/-- A PLAYING route goes to WAITING. -/
def toWaiting (r : RouteId) (why : Reason) (s : State) : State :=
  s.onRoute r fun x => { x with state := .waiting, purpose := none, pending := none, reason := some why }

/-- Lock lost on a port, at one route (R30). -/
def routeLockLost (p : Fin 10) (r : RouteId) (s : State) : State :=
  if onPortNow s r p then
    match (s.route r).state with
    | .playing => hardMute r (toWaiting r .noLock s)
    | .fadingOut => hardMute r s
    | .waiting => rejudge r false s
    | _ => s
  else s

/-- Lock gained, or the non-audio flag cleared, at one route (R30). -/
def routeMayPlay (p : Fin 10) (r : RouteId) (s : State) : State :=
  if onPortNow s r p ∧ (s.route r).state = .waiting then rejudge r true s else s

/-- The non-audio flag set, at one route (R30). -/
def routeNonAudio (p : Fin 10) (r : RouteId) (s : State) : State :=
  if onPortNow s r p then
    match (s.route r).state with
    | .playing => toWaiting r .bitstream s
    | .waiting => rejudge r false s
    | _ => s
  else s

def routesLockLost (p : Fin 10) : State → State :=
  routeEvent fun s => routeLockLost p .zone (routeLockLost p .main (onInput p suspend s))

def routesMayPlay (p : Fin 10) : State → State := routeEvent fun s => routeMayPlay p .zone (routeMayPlay p .main s)

def routesNonAudio (p : Fin 10) : State → State := routeEvent fun s => routeNonAudio p .zone (routeNonAudio p .main s)

/-! ## The tuner (R31, R32, R143) -/

/-- Whether a route's selected source carries the radio. -/
def tunerBound (s : State) (r : RouteId) : Bool :=
  match (s.route r).selected with
  | some i => (s.source i).tunerBound
  | none => false

/-- Hush start at one route (R31). -/
def routeHush (r : RouteId) (s : State) : State :=
  if tunerBound s r then
    match (s.route r).state with
    | .playing => enterFade r .hold none s
    | .waiting => rejudge r false s
    | _ => s
  else s

def hushStart : State → State := routeEvent fun s => routeHush .zone (routeHush .main s)

/-- The listening event at one route (R31). -/
def routeListening (r : RouteId) (s : State) : State :=
  if (s.route r).state = .waiting ∧ (s.route r).reason = some .tunerBusy then rejudge r true s else s

def listeningEvent : State → State := routeEvent fun s => routeListening .zone (routeListening .main s)

/-- The hush timeout at one route (R32). -/
def routeHushTimeout (r : RouteId) (s : State) : State :=
  if tunerBound s r then
    match (s.route r).state, (s.route r).purpose with
    | .playing, _ => hardMute r (toWaiting r .tunerBusy s)
    | .fadingOut, some .hold =>
      let t := hardMute r (toWaiting r .tunerBusy s)
      match r with
      | .main => relayoutIfDue t
      | .zone => t
    | .fadingOut, _ => hardMute r s
    | _, _ => s
  else s

def hushTimeout : State → State := routeEvent fun s => routeHushTimeout .zone (routeHushTimeout .main s)

/-- Whether the hush goes on: a tuner-bound route is PLAYING or FADING_OUT (R143). -/
def hushHeld (s : State) : Bool :=
  [RouteId.main, .zone].any fun r =>
    tunerBound s r && (decide ((s.route r).state = .playing) || decide ((s.route r).state = .fadingOut))

/-! ## Re-layout requests (R33) -/

/-- A re-layout request from LAYOUT_SET, ZONE_AMP or PROFILE_WRITE. -/
def relayoutRequest (s : State) : State :=
  let t := s.onRoute .main fun m => { m with relayoutDue := true }
  if s.main.state = .playing then routeEvent (enterFade .main .relayout none) t else t

/-- The re-layout point of a boundary (R33): MAIN is SILENT or WAITING and the point is due. -/
def relayoutCheck (s : State) : State :=
  if s.main.relayoutDue = true ∧ (s.main.state = .silent ∨ s.main.state = .waiting) then routeEvent relayoutPoint s else s

/-! ## Measurement takeover and release (R34, R35) -/

/-- The take-MAIN event (R34). -/
def takeMain : State → State := routeEvent fun s =>
  match s.main.state with
  | .playing => enterFade .main .measure none s
  | .fadingOut => s.onRoute .main fun x => { x with purpose := some .measure }
  | .silent | .waiting => enterMeasure s
  | .measure => s

/-- The release-MAIN event (R35). A burst gain that is still posted ends (R75), and the delay lines hold silence when MAIN
leaves MEASURE (R81). -/
def releaseMain : State → State := routeEvent fun s =>
  match s.main.state, s.main.purpose with
  | .measure, _ =>
    let t := relayoutIfDue (silenceLines (withdrawBurst s))
    if s.link.opState = .running then attach .main (t.main.pending.getD t.main.selected) t
    else t.onRoute .main fun x => { x with state := .fadingOut, purpose := some .standby }
  | .fadingOut, some .measure =>
    if s.link.opState = .running then
      s.onRoute .main fun x => { x with purpose := some .switch, pending := some (x.pending.getD x.selected) }
    else s.onRoute .main fun x => { x with purpose := some .standby }
  | _, _ => s

/-! ## Quiet and running (R36, R37) -/

/-- The quiet event at one route (R36). -/
def routeQuiet (r : RouteId) (s : State) : State :=
  match (s.route r).state with
  | .playing | .waiting => enterFade r .standby none s
  | .fadingOut => s.onRoute r fun x => { x with purpose := some .standby }
  | .silent => s.onRoute r fun x => { x with reason := heldReason x.selected }
  | .measure => s

def routesQuiet : State → State := routeEvent fun s => routeQuiet .zone (routeQuiet .main s)

/-- The quiet timeout at one route (R36). A re-layout point that is due is carried out when MAIN itself is silenced here (log
entry 14). -/
def routeQuietTimeout (r : RouteId) (s : State) : State :=
  match (s.route r).state with
  | .playing | .waiting | .fadingOut =>
    let t := hardMute r s
    let u := match r with
      | .main => relayoutIfDue t
      | .zone => t
    let sel := (u.route r).pending.getD (u.route r).selected
    silence r sel (heldReason sel) u
  | _ => s

def routesQuietTimeout : State → State := routeEvent fun s => routeQuietTimeout .zone (routeQuietTimeout .main s)

/-- Both routes are SILENT (R36). -/
def routesSilent (s : State) : Bool := decide (s.main.state = .silent) && decide (s.zone.state = .silent)

/-- The running event at one route (R37). -/
def routeRunning (r : RouteId) (s : State) : State :=
  if (s.route r).state = .silent ∧ (s.route r).selected ≠ none then attach r (s.route r).selected s else s

def routesRunning : State → State := routeEvent fun s => routeRunning .zone (routeRunning .main s)

/-! ## Selection (R43, R45, R51) -/

/-- A stored SOURCE_SET that changed the record acts on a route that selects it (R43). -/
def routeSourceChanged (i : Fin 12) (r : RouteId) (s : State) : State :=
  let x := s.route r
  let again (t : State) : State := enterFade r .switch (some (some i)) t
  if x.selected = some i then
    match x.state, x.purpose with
    | .playing, _ => if (s.source i).enabled then again s else toWaiting r .sourceDisabled s
    | .waiting, _ => again s
    | .fadingOut, some .relayout | .fadingOut, some .hold =>
      s.onRoute r fun y => { y with purpose := some .switch, pending := some (some i) }
    | _, _ => s
  else s

def sourceChanged (i : Fin 12) : State → State := routeEvent fun s =>
  routeSourceChanged i .zone (routeSourceChanged i .main s)

/-- RELAYOUT and HOLD give way to SWITCH (R45). -/
def switchPurpose (p : Option Purpose) : Option Purpose :=
  match p with
  | some .relayout | some .hold => some .switch
  | other => other

/-- A fading route already heads for the selection (R45). -/
def headsFor (x : Route) (sel : Option (Fin 12)) : Bool :=
  decide (x.pending = some sel) || (decide (x.pending = none) && decide (x.selected = sel))

/-- The effect of SELECT on a route (R45). -/
def routeSelect (r : RouteId) (sel : Option (Fin 12)) (s : State) : State :=
  let x := s.route r
  let running := decide (s.link.opState = .running)
  match x.state with
  | .silent =>
    if running then if sel = none then s else attach r sel s
    else s.onRoute r fun y => { y with selected := sel, reason := heldReason sel }
  | .playing | .waiting => if running ∧ x.selected ≠ sel then enterFade r .switch (some sel) s else s
  | .fadingOut =>
    if running then
      if headsFor x sel then s
      else s.onRoute r fun y => { y with pending := some sel, purpose := switchPurpose y.purpose }
    else s.onRoute r fun y => { y with pending := some sel }
  | .measure => s

/-- Whether a SELECT changes the route's selected or pending source (R45, R51). -/
def selectChanges (r : RouteId) (sel : Option (Fin 12)) (s : State) : Bool :=
  let x := s.route r
  let running := decide (s.link.opState = .running)
  match x.state with
  | .silent => decide (x.selected ≠ sel) && !(running && decide (sel = none))
  | .playing | .waiting => running && decide (x.selected ≠ sel)
  | .fadingOut => if running then !headsFor x sel else decide (x.pending ≠ some sel)
  | .measure => false

/-- SELECT at the route controller: a change on MAIN removes the RENDER_MODE override before any attach (R51). -/
def selectSource (r : RouteId) (sel : Option (Fin 12)) (s : State) : State :=
  let t := if r = .main ∧ selectChanges r sel s = true then s.onRender fun x => { x with override := none } else s
  routeEvent (routeSelect r sel) t

end Sys2Proof.Machine
end

