-- ==== Sys2Proof/Machine/MeasureRun.lean ====
section
/-! DEFINITION. The course of a measurement run (chapter 6): slot turns, the ends of the phases, the end of the run, the
abort and the completion. -/

namespace Sys2Proof.Machine

/-! ## Leaving PROBING (R128, R129) -/

/-- The unit enters RESTORING and gives MAIN back; the burst gain ends with it (R75, R129). DESIGN CHOICE (log entry 12): the
ROUTE notice of the release stands before the RUN_STATE notice of RESTORING. -/
def enterRestoring (s : State) : State :=
  let t := releaseMain (withdrawBurst (s.onRun fun r => { r with state := .restoring, probe := none, todo := [] }))
  match t.measure.run with
  | some r => runNotice (some .restoring) r t
  | none => t

/-- The end of the run at the boundary at which its last slot is finished (R128). -/
def runEnd (s : State) : State :=
  match s.measure.run with
  | some r => enterRestoring (applyResults r s)
  | none => s

/-! ## Slot turns (R119) -/

/-- The slots still to be probed take their turns: the first whose group is ON enters its ambient phase, those before it
are FAULTED at once, and with none left the run ends. -/
def takeTurns : List (Fin 12) → State → State
  | [], s => runEnd (s.onRun fun r => { r with todo := [] })
  | i :: rest, s =>
    if s.groupOn i then s.onRun fun r => { r with todo := rest, probe := some (startRepetition i 1 false []) }
    else takeTurns rest (finishSlot i (bareResult .faulted) s)

/-- The turn of the next slot of a run in PROBING that probes none. -/
def slotTurn (s : State) : State :=
  match s.measure.run with
  | some r => if r.state = .probing ∧ r.probe = none then takeTurns r.todo s else s
  | none => s

/-! ## The ends of the phases (R120 to R124) -/

/-- The ambient phase ends: threshold and ambient level are formed, and the listen phase begins with the burst (R120,
R121). -/
def ambientEnd (s : State) : State :=
  match s.measure.run with
  | some r =>
    match r.probe with
    | some p =>
      if p.phase = .ambient then
        postBurst p.slot r.burst <| s.onRun fun r => { r with
          probe := some { p with
            phase := .listen
            frame := 0
            threshold := probeThreshold p.peak
            ambient := ambientLevel p.peak r.correction } }
      else s
    | none => s
  | none => s

/-- The burst ends: its gain is withdrawn (R121). -/
def burstEnd (s : State) : State :=
  match s.measure.run.bind (·.probe) with
  | some p => if p.phase = .listen then withdrawBurst s else s
  | none => s

/-- The burst level after a clipped repetition (R124). -/
def lowerBurst (level : Int) : Int := max (-400) (level - 60)

/-- A repetition is finished (R123): the next one begins, or the slot's result is formed and the next slot has its turn
(R126). -/
def finishRepetition (p : Probe) (s : State) : State :=
  match s.measure.run with
  | some r =>
    let done := p.finished ++ [repetitionOf r p]
    if p.repetition < r.repetitions then
      s.onRun fun r => { r with probe := some (startRepetition p.slot (p.repetition + 1) false done) }
    else slotTurn (finishSlot p.slot (slotResult done) s)
  | none => s

/-- The listen phase ends (R122): a clipped repetition lowers the burst level and is made again once (R124). -/
def listenOver (s : State) : State :=
  match s.measure.run.bind (·.probe) with
  | some p =>
    if p.phase = .listen then
      let t := withdrawBurst s
      let u := if p.clipped then t.onRun fun r => { r with burst := lowerBurst r.burst } else t
      if p.clipped ∧ p.repeatUsed = false then
        u.onRun fun r => { r with probe := some (startRepetition p.slot p.repetition true p.finished) }
      else finishRepetition p u
    else s
  | none => s

/-! ## Abort and completion (R129, R130) -/

/-- The abort of a run in PREPARING or PROBING (R130). -/
def abortRun (s : State) : State :=
  match s.measure.run with
  | some r =>
    if r.state = .restoring then s
    else
      let lost := (r.probe.map (·.slot)).toList ++ r.todo
      enterRestoring (setResults lost .skipped ((withdrawBurst s).onRun fun r => { r with outcome := .aborted }))
  | none => s

/-- The status bytes of a MEASURE completion (R198). -/
def statusBytes (s : State) (mask : List (Fin 12)) : List Byte :=
  allSlots.map fun i => if i ∈ mask then resultCode (s.measure.results.get i).status else 0xFF

/-- A run in RESTORING ends (R129): the RUN_STATE notice, then the completion (log entry 12). -/
def runComplete (s : State) : State :=
  match s.measure.run with
  | some r =>
    if r.state = .restoring then
      complete 0x40 r.tag (runOutcome r.outcome) (u16 (maskOf r.mask) ++ statusBytes s r.mask)
        (runNotice none r (s.onMeasure fun m => { m with run := none }))
    else s
  | none => s

/-- What a render-block boundary ends in a run that stands as `r` when the boundary begins (R118 to R122, R129). -/
def measureBoundary (r : Option Run) (s : State) : State :=
  match r with
  | none => s
  | some r =>
    match r.state, r.probe with
    | .preparing, _ => s
    | .restoring, _ => runComplete s
    | .probing, none => slotTurn s
    | .probing, some p =>
      match p.phase with
      | .ambient => if 4800 ≤ p.frame then ambientEnd s else s
      | .listen =>
        if listenEnd p ≤ p.frame then listenOver s
        else if 960 ≤ p.frame then burstEnd s
        else s

end Sys2Proof.Machine
end

