-- ==== Sys2Proof/Machine/Ports.lean ====
section
/-! DEFINITION. The port unit (chapter 1), but for the audio: enabling, measurement windows and classification, the lock
state machine, status blocks, trims and slips, and the PORT notices. -/

namespace Sys2Proof.Machine

/-! ## Kinds of port (R1) -/

inductive PortKind where
  | lane
  | biphase
  | stereoAdc
  | micAdc
  deriving DecidableEq, Repr

/-- D1 to D4, S1 and S2, A1 to A3, MIC. -/
def portKind (p : Fin 10) : PortKind :=
  if p.1 < 4 then .lane else if p.1 < 6 then .biphase else if p.1 < 9 then .stereoAdc else .micAdc

/-- D and S ports have a clock to measure; A and MIC ports have an ADC with trims. -/
def hasClock (p : Fin 10) : Bool := decide (portKind p = .lane) || decide (portKind p = .biphase)

/-! ## Notices and events (R15, R16) -/

/-- A PORT notice; its reasons are LOCK_STATE 0, NON_AUDIO 1 and SLIP 2 (R198). -/
def portNotice (reason : Byte) (p : Fin 10) (s : State) : State :=
  let x := s.port p
  emit .port
    ([reason, number p, lockCode x.lock, rateCode x.rate, formatCode x.format] ++ u8 x.channels
      ++ optional 1 (if portKind p = .biphase then some [flagCode x.nonAudio] else none))
    s

/-- Lock gained goes to the route controller; the measurement unit does nothing with it. -/
def lockGained (p : Fin 10) (s : State) : State := routesMayPlay p s

/-- Lock lost goes to the route controller, and from MIC to the measurement unit (R130). -/
def lockLost (p : Fin 10) (s : State) : State :=
  if portKind p = .micAdc then abortRun (routesLockLost p s) else routesLockLost p s

/-- A change of a port's record: a change of its lock state queues a notice, and an entry to or an exit from LOCKED raises
its event. -/
def portChange (p : Fin 10) (f : Port → Port) (s : State) : State :=
  let t := s.onPort p f
  let was := (s.port p).lock
  let is := (t.port p).lock
  if is = was then t
  else
    let u := portNotice 0 p t
    if is = .locked then lockGained p u else if was = .locked then lockLost p u else u

/-! ## Enabling (R4, R5) -/

def startPort (p : Fin 10) (x : Port) : Port :=
  match portKind p with
  | .stereoAdc => { x with enabled := true, lock := .locked, rate := .r48, format := .analog, channels := 2 }
  | .micAdc => { x with enabled := true, lock := .locked, rate := .r48, format := .analog, channels := 1 }
  | _ =>
    { x with
      enabled := true, lock := .measuring, period := 0, high := 0, low := 0, bits := 0
      rate := .none, format := .unknown, channels := 0, blockSeen := false }

def stopPort (x : Port) : Port :=
  { State.resetPort with clips := x.clips, slips := x.slips, offsetTrim := x.offsetTrim, gainTrim := x.gainTrim }

/-- PORT_SET at the port unit: no change for a port that is already so. -/
def enablePort (p : Fin 10) (on : Bool) (s : State) : State :=
  if (s.port p).enabled = on then s else portChange p (if on then startPort p else stopPort) s

/-! ## Windows (R6 to R9) -/

/-- The largest value of the three counts (R2). -/
def countLimit : Nat := 4194303

/-- The nominal counts of the rate classes (R7). -/
def nominalCounts : List (RateClass × Nat) :=
  [(.r32, 49152), (.r44, 35665), (.r48, 32768), (.r88, 17833), (.r96, 16384), (.r176, 8916), (.r192, 8192)]

/-- The distance of a count from a nominal count. -/
def offNominal (p n : Nat) : Nat := ((p : Int) - n).natAbs

/-- The rate class of a period count (R7). -/
def rateOf (p : Nat) : RateClass :=
  match nominalCounts.find? fun e => decide (500 * offNominal p e.2 ≤ e.2) with
  | some e => e.1
  | none => .none

/-- A locked port keeps its class in the wider band (R7, R12). -/
def keepsRate (r : RateClass) (p : Nat) : Bool :=
  match nominalCounts.find? fun e => decide (e.1 = r) with
  | some e => decide (200 * offNominal p e.2 ≤ e.2)
  | none => false

/-- The format of a window of a D port with its channels (R8). -/
def laneFormat (p h b : Nat) : Format × Nat :=
  if 2 * p ≤ 5 * h ∧ 5 * h ≤ 3 * p ∧ b = 64 then (.twoChannel, 2)
  else if 8 * h ≤ p ∧ b = 128 then (.tdm4, 4)
  else if 8 * h ≤ p ∧ b = 256 then (.tdm8, 8)
  else (.unknown, 0)

/-- The format of a window of a port (R8, R9); `matched` says whether the window is in its rate band. -/
def windowFormat (k : PortKind) (matched : Bool) (p h b : Nat) : Format × Nat :=
  match k with
  | .lane => laneFormat p h b
  | _ => if matched then (.biphase, 2) else (.unknown, 0)

/-- The counts of a completed window go into the record; an S port counts the period only (R6). -/
def storeCounts (k : PortKind) (high low edges : Nat) (x : Port) : Port :=
  match k with
  | .lane =>
    { x with
      period := min (high + low) countLimit
      high := min high countLimit
      low := min low countLimit
      bits := min (roundDiv edges 64).toNat 1023 }
  | _ => { x with period := min (high + low) countLimit, high := 0, low := 0 }

/-- The classification of a window while MEASURING or UNSUPPORTED (R11); the counts are in the record. -/
def qualifyWindow (k : PortKind) (x : Port) : Port :=
  let rate := rateOf x.period
  let fmt := windowFormat k (decide (rate ≠ .none)) x.period x.high x.bits
  { x with
    rate := rate
    format := fmt.1
    channels := fmt.2
    lock :=
      if rate = .none ∨ fmt.1 = .unknown then .unsupported
      else if k = .biphase ∧ x.blockSeen = false then x.lock
      else .locked }

/-- The comparison of a window with the lock (R12). An S port is held to the lock band of R7, so its format is compared in
that band (log entry 9). -/
def compareWindow (k : PortKind) (x : Port) : Port :=
  let kept := keepsRate x.rate x.period
  if kept = true ∧ windowFormat k kept x.period x.high x.bits = (x.format, x.channels) then x
  else { x with lock := .measuring, rate := .none, format := .unknown, channels := 0, blockSeen := false }

/-- A window acts on the record according to the lock state (R11, R12). -/
def windowRecord (k : PortKind) (high low edges : Nat) (x : Port) : Port :=
  match x.lock with
  | .measuring | .unsupported => qualifyWindow k (storeCounts k high low edges x)
  | .locked => compareWindow k (storeCounts k high low edges x)
  | _ => x

/-- The converters on a LOCKED port take the base step of its newest window (R39). -/
def takePeriod (p : Fin 10) (s : State) : State :=
  if (s.port p).lock = .locked then
    onInput p (fun c => { c with baseStep := baseStepOf s p }) s
  else s

/-- A measurement window of a D or S port completes (R6). In the other lock states no window is in progress. -/
def windowComplete (p : Fin 10) (high low edges : Nat) (s : State) : State :=
  if hasClock p then takePeriod p (portChange p (windowRecord (portKind p) high low edges) s) else s

/-! ## Edge timer and clock (R13, R14) -/

def measured (st : LockState) : Bool := decide (st = .measuring) || decide (st = .unsupported) || decide (st = .locked)

/-- The record at an expiry of the edge timer (R13). -/
def noClock (lineHigh : Bool) (x : Port) : Port :=
  { x with
    lock := if lineHigh then .noClockHigh else .noClockLow
    period := 0
    high := if lineHigh then countLimit else 0
    low := if lineHigh then 0 else countLimit
    bits := 0
    rate := .none
    format := .unknown
    channels := 0
    nonAudio := false
    wordLength := 0
    blockSeen := false }

def edgeExpired (p : Fin 10) (lineHigh : Bool) (s : State) : State :=
  if hasClock p = true ∧ measured (s.port p).lock = true then portChange p (noClock lineHigh) s else s

/-- The next edge, or frame start on an S port, after a NO_CLOCK state (R14). -/
def clockBack (p : Fin 10) (s : State) : State :=
  if (s.port p).lock = .noClockLow ∨ (s.port p).lock = .noClockHigh then
    portChange p (fun x => { x with lock := .measuring, period := 0, high := 0, low := 0 }) s
  else s

/-! ## Status blocks (R10) -/

/-- A complete status block of an S port; it cannot complete without a clock (R10, R14). -/
def statusBlock (p : Fin 10) (nonAudio : Bool) (len : Nat) (s : State) : State :=
  if portKind p = .biphase ∧ measured (s.port p).lock = true then
    let t := s.onPort p fun x =>
      { x with nonAudio := nonAudio, wordLength := if 16 ≤ len ∧ len ≤ 24 then len else 0, blockSeen := true }
    if (s.port p).nonAudio = nonAudio then t
    else
      let u := portNotice 1 p t
      if nonAudio then routesNonAudio p u else routesMayPlay p u
  else s

/-! ## Slips (R19) -/

/-- A slip event of a converter at its port. -/
def portSlip (p : Fin 10) (s : State) : State := portNotice 2 p (s.onPort p fun x => { x with slips := count16 x.slips })

end Sys2Proof.Machine
end

