-- ==== Sys2Proof/Machine/Audio.lean ====
section
/-! DEFINITION. The audio path: ADC trim and clips (R17, R18), the rate converters (R38 to R40), the render matrix and the
steering (R53, R63), bass routing (R59), the gain stage (R80), the delay lines (R81), and the whole of a render block. A
block is rendered at its end, from the state as it then stands, but for the coefficients that a mute inside the block leaves
to its first frames (log entry 10). -/

namespace Sys2Proof.Machine

/-! ## Analog inputs (R17, R18) -/

/-- The largest x below 2^23 with x^120 at most a bound. -/
def root120 (bound : Nat) : Nat :=
  (List.range 23).foldr (fun b x => if (x + 2 ^ b) ^ 120 ≤ bound then x + 2 ^ b else x) 0

/-- g = round(2^20 × 2^((128 − c) / 120)) of a gain trim code c (R17), by way of the floor of 2g. -/
def trimGain (c : Byte) : Nat :=
  let m := 368 - c.toNat
  (root120 ((2 ^ (19 + m / 120)) ^ 120 * 2 ^ (m % 120)) + 1) / 2

/-- The offset of an offset trim code (R17). -/
def trimOffset (c : Byte) : Int := (128 - (c.toNat : Int)) * 64

/-- A trimmed sample before saturation (R17). -/
def trimmed (x : Port) (a : Sample) : Int := roundDiv ((a.toInt + trimOffset x.offsetTrim) * trimGain x.gainTrim) (2 ^ 20)

/-- Whether a value before saturation is a clip (R18). -/
def isClip (y : Int) : Bool := decide (8388000 ≤ y) || decide (y ≤ -8388000)

/-- Clips counted for a list of values before saturation (R18). -/
def countClips (l : List Int) (n : Nat) : Nat := (l.filter isClip).foldl (fun k _ => count16 k) n

/-! ## Converter input (R24, R39) -/

/-- The port channel that a source channel takes (R24). -/
def portChannel (i : ConvInput) (k : Nat) : Nat :=
  i.first + (if i.swap = true ∧ 2 ≤ i.count then (if k = 0 then 1 else if k = 1 then 0 else k) else k)

/-- The sample of source channel `k` in a port frame; silent at and beyond the detected channel count, and while the
non-audio flag is set (R24, R39). -/
def sourceSample (i : ConvInput) (x : Port) (frame : List Int) (k : Nat) : Int :=
  if x.nonAudio = true ∨ i.count ≤ k ∨ x.channels ≤ portChannel i k then 0 else frame.getD (portChannel i k) 0

/-- The frame that a converter writes (R39): source channels on MAIN, the zone downmix on ZONE. -/
def converterFrame (r : RouteId) (mix : Table (Int × Int) 8) (i : ConvInput) (x : Port) (frame : List Int) : List Int :=
  let lanes := (List.range 8).map (sourceSample i x frame)
  match r with
  | .main => lanes
  | .zone =>
    let side (f : Int × Int → Int) : Int :=
      saturate (roundDiv ((lanes.zip mix.items).foldl (fun acc e => acc + f e.2 * e.1) 0) 16384)
    [side (·.1), side (·.2)]

/-- Whether a converter takes a port whose writes and reads share the reference clock (R40). -/
def Converter.sharesClock (c : Converter) : Bool :=
  match c.input with
  | some i => !hasClock i.port
  | none => false

/-- A write of a RUNNING converter on an A port: the write and the read of one frame go together, so the fill is held where
FILLING left it (R40). The frame read waits in `given` until the block is rendered (log entry 21). -/
def convPass (frame : List Int) (c : Converter) : Converter :=
  { c with fifo := (c.fifo ++ [frame]).drop 1, given := c.given ++ (c.fifo ++ [frame]).take 1 }

/-- A write into a converter's FIFO, with whether it slipped (R38, R40): 128 frames start it, 256 re-centre it, and an A port
passes through it. -/
def convWrite (frame : List Int) (c : Converter) : Converter × Bool :=
  match c.state with
  | .filling =>
    if c.fifo.length + 1 = 128 then
      ({ c with state := .running, fifo := c.fifo ++ [frame], phase := 0, step := c.baseStep }, false)
    else ({ c with fifo := c.fifo ++ [frame] }, false)
  | .running =>
    if c.sharesClock then (convPass frame c, false)
    else if 256 ≤ c.fifo.length + 1 then ({ c with fifo := (c.fifo ++ [frame]).drop 128, phase := 0 }, true)
    else ({ c with fifo := c.fifo ++ [frame] }, false)
  | _ => (c, false)

/-- A slip of a route's converter goes to its input port; A ports never slip (R19, R40). -/
def slipEvent (i : ConvInput) (s : State) : State := if hasClock i.port then portSlip i.port s else s

/-- A frame that a LOCKED port delivers is written into a route's converter, if that takes the port. -/
def deliverTo (r : RouteId) (p : Fin 10) (frame : List Int) (s : State) : State :=
  match (s.route r).conv.input with
  | some i =>
    if i.port = p then
      let w := convWrite (converterFrame r s.render.zoneMix i (s.port p) frame) (s.route r).conv
      let t := s.onConv r fun _ => w.1
      if w.2 then slipEvent i t else t
    else s
  | none => s

/-- A frame delivered by a port, to both converters. -/
def deliver (p : Fin 10) (frame : List Int) (s : State) : State := deliverTo .zone p frame (deliverTo .main p frame s)

/-- A frame of a D or S port, which delivers audio in LOCKED only (section 1.6). -/
def deliverClocked (p : Fin 10) (frame : List Sample) (s : State) : State :=
  if hasClock p = true ∧ (s.port p).lock = .locked then deliver p (frame.map (·.toInt)) s else s

/-- One frame of an ADC (R17, R18). -/
def adcFrame (p : Fin 10) (left right : Sample) (s : State) : State :=
  if (s.port p).lock ≠ .locked then s
  else
    match portKind p with
    | .stereoAdc =>
      let y := [trimmed (s.port p) left, trimmed (s.port p) right]
      deliver p (y.map saturate) (s.onPort p fun x => { x with clips := countClips y x.clips })
    | .micAdc =>
      let y := trimmed (s.port p) left
      measureSample (saturate y) (isClip y) (s.onPort p fun x => { x with clips := countClips [y] x.clips })
    | _ => s

/-! ## Converter output (R39, R40) -/

/-- The frames that a converter on an A port gives in a block of `n`: one that gave fewer, since it entered RUNNING inside the
block, starts the block with zero frames (R38, log entry 21). -/
def alignGiven (lanes n : Nat) (c : Converter) : Converter :=
  if c.state = .running ∧ c.sharesClock = true then
    { c with given := List.replicate (n - c.given.length) (List.replicate lanes 0) ++ c.given }
  else c

/-- The output frame of a converter, the converter after it, and whether it slipped empty. -/
def convRead (lanes : Nat) (c : Converter) : List Int × Converter × Bool :=
  if c.state ≠ .running then (List.replicate lanes 0, c, false)
  else if c.sharesClock then (c.given.headD (List.replicate lanes 0), { c with given := c.given.drop 1 }, false)
  else
    match c.fifo with
    | [] => (List.replicate lanes 0, { c with state := .filling }, true)
    | a :: rest =>
      let out := match rest with
        | [] => a
        | b :: _ => (a.zip b).map fun e => e.1 + roundDiv ((e.2 - e.1) * c.phase) (2 ^ 24)
      let phase := c.phase + c.step
      let left := c.fifo.drop (phase / 2 ^ 24)
      (out, { c with fifo := left, phase := phase % 2 ^ 24, state := if left = [] then .filling else .running },
        decide (left = []))

/-- The lanes of a route's converter (section 2.10). -/
def laneCount (r : RouteId) : Nat :=
  match r with
  | .main => 8
  | .zone => 2

/-- A route's converter gives its frame for one output frame. -/
def readConverter (r : RouteId) (s : State) : List Int × State :=
  let out := convRead (laneCount r) (s.route r).conv
  let t := s.onConv r fun _ => out.2.1
  match (s.route r).conv.input, out.2.2 with
  | some i, true => (out.1, slipEvent i t)
  | _, _ => (out.1, t)

/-- The step of a RUNNING converter at a render-block boundary (R39). -/
def convStep (c : Converter) : Converter :=
  match c.state, c.input with
  | .running, some i =>
    let fill : Int := c.fifo.length
    { c with
      step :=
        if hasClock i.port then ((c.baseStep : Int) + (c.baseStep * (fill - 128)) / 65536).toNat else c.baseStep }
  | _, _ => c

def stepConverters (s : State) : State := (s.onConv .main convStep).onConv .zone convStep

/-! ## Rendering (R53, R62, R63) -/

/-- Half the sum and half the difference of lanes 0 and 1, floored (R62). -/
def halfSum (l : List Int) : Int := (l.getD 0 0 + l.getD 1 0) / 2

def halfDiff (l : List Int) : Int := (l.getD 0 0 - l.getD 1 0) / 2

/-- The five steered signals L − C′, R − C′, C′, S, −S (R63). -/
def steered (r : Renderer) (l : List Int) : List Int :=
  let c := roundDiv (r.steerC * halfSum l) 16384
  let sur := roundDiv (r.steerS * halfDiff l) 16384
  [l.getD 0 0 - c, l.getD 1 0 - c, c, sur, -sur]

/-- One slot's weighted sum, rounded and saturated once (R53, R63). -/
def weighted (m : List (Table Int 12)) (signals : List Int) (i : Fin 12) : Int :=
  (m.zip signals).foldl (fun acc e => acc + e.1.get i * e.2) 0

/-- The output of the render matrix: the lanes in DIRECT and STEREO, the steered signals in MATRIX, whose other matrix is
all zero. -/
def matrixOut (r : Renderer) (lanes : List Int) : Table Int 12 :=
  Table.tabulate fun i =>
    saturate (roundDiv (weighted r.lanes.items lanes i + weighted r.feeds.items (steered r lanes) i) 16384)

/-- The block energies take one frame while MATRIX runs with a source attached (R62). -/
def takeEnergy (lanes : List Int) (s : State) : State :=
  if s.mainAttached ∧ s.main.effMode = some .matrix then
    s.onRender fun r =>
      { r with
        blockSum := r.blockSum + (halfSum lanes).natAbs ^ 2
        blockDiff := r.blockDiff + (halfDiff lanes).natAbs ^ 2 }
  else s

/-! ## Bass routing (R59) -/

/-- The held coefficients b0 = b2, b1, a1, a2 of a section, round(2^30 × value), for each crossover of the list. -/
def lowPass (f : Nat) : Int × Int × Int × Int :=
  match f with
  | 40 => (7332, 14664, -2139532835, 1065820340)
  | 60 => (16467, 32934, -2135557497, 1061881540)
  | 80 => (29221, 58441, -2131582238, 1057957296)
  | 90 => (36948, 73897, -2129594647, 1056000616)
  | 100 => (45573, 91146, -2127607086, 1054047555)
  | 110 => (55093, 110186, -2125619558, 1052098106)
  | 120 => (65505, 131010, -2123632067, 1050152262)
  | 150 => (102070, 204140, -2117669842, 1044336297)
  | 200 => (180629, 361258, -2107733822, 1034714513)
  | _ => (0, 0, 0, 0)

/-- One frame through one section: its output and its state after it. -/
def runSection (f : Nat) (x : Int) (st : Section) : Int × Section :=
  let k := lowPass f
  let y := (k.1 * x + k.2.1 * st.x1 + k.1 * st.x2 - k.2.2.1 * st.y1 - k.2.2.2 * st.y2) / 2 ^ 30
  (y, ⟨x, st.x1, y, st.y1⟩)

/-- One frame through an entry's filter: the low part and the entry after it. -/
def runEntry (m : Table Int 12) (e : BassEntry) : Int × BassEntry :=
  let a := runSection e.crossover (m.get e.slot) e.first
  let b := runSection e.crossover a.1 e.second
  (saturate b.1, { e with first := a.2, second := b.2 })

/-- The weight of a low part at a receiver: full into a subwoofer, 0.7071 into FL and FR. -/
def receiverWeight (l : Layout) (i : Fin 12) : Int :=
  if (l.slots.get i).position = .sw1 ∨ (l.slots.get i).position = .sw2 then 16384 else 11585

/-- What a slot carries after bass routing: its own part plus the low parts it receives. -/
def bassSum (l : Layout) (m : Table Int 12) (parts : List (Int × BassEntry)) (i : Fin 12) : Int :=
  let own := parts.foldl (fun acc e => if e.2.slot = i then acc - e.1 else acc) (m.get i)
  let got := parts.foldl (fun acc e => if i ∈ e.2.receivers then acc + receiverWeight l i * e.1 else acc) 0
  saturate (roundDiv (own * 16384 + got) 16384)

/-- Bass routing of one frame: the signals of the slots and the table after it. A slot that is not present has output 0. -/
def routeBass (r : Renderer) (m : Table Int 12) : Table Int 12 × List BassEntry :=
  let parts := r.bass.map (runEntry m)
  (Table.tabulate fun i => if i ∈ r.present then bassSum r.inForce m parts i else 0, parts.map (·.2))

/-! ## The burst (R121) -/

/-- The shift register of the burst generator: the new bit 15 is the exclusive-or of bits 0, 2, 3 and 5. -/
def burstNext (g : BitVec 16) : BitVec 16 :=
  (BitVec.ofBool (g.getLsbD 0 ^^ g.getLsbD 2 ^^ g.getLsbD 3 ^^ g.getLsbD 5)) ++ g.extractLsb' 1 15

/-- The sample of the generator: full scale with the sign of bit 0, and silence after its 960 frames. -/
def burstSample (b : Burst) : Int := if b.left = 0 then 0 else if b.register.getLsbD 0 then 8388607 else -8388607

def advanceBurst (b : Burst) : Burst :=
  if b.left = 0 then b else { b with register := burstNext b.register, left := b.left - 1 }

/-! ## Gain stage and delay (R80, R81) -/

/-- A sample through a coefficient and a polarity (R80). -/
def gainSample (x : Int) (k : Nat) (inverted : Bool) : Int :=
  let y := roundDiv (x * k) (2 ^ 20)
  saturate (if inverted then -y else y)

/-- The sample that reaches the gain stage of a slot (R80): the burst, the zone signal, or the slot's signal. -/
def stageInput (s : State) (bass : Table Int 12) (zone : List Int) (i : Fin 12) : Int :=
  match burstOn s i with
  | some b => burstSample b
  | none => if s.isZoneSlot i then zone.getD (i.1 % 2) 0 else bass.get i

/-- Whether the slot's delay line and polarity are bypassed: a main slot while MAIN is MEASURE (R75, R81). -/
def bypassed (s : State) (i : Fin 12) : Bool := decide (s.main.state = .measure) && !s.isZoneSlot i

/-- A present slot's delay line takes one sample; it takes a zero while it is bypassed (R81). -/
def pushDelay (y : Int) (c : Channel) : Channel := { c with line := (y :: c.line).take c.committed }

/-- The sample that leaves a slot: the one that left the gain stage `committed` frames before (R81). -/
def leaveDelay (y : Int) (c : Channel) : Int := if c.committed = 0 then y else c.line.getD (c.committed - 1) 0

/-- The coefficient of an output in frame `n` of the block: one that was muted inside the block keeps its own until the frame
after the mute (R77, R79). -/
def coefAt (n : Nat) (early : List (Nat × Nat)) (coef : Nat) : Nat :=
  match early.find? fun e => decide (n < e.1) with
  | some e => e.2
  | none => coef

/-- The twelve samples after the gain stage in frame `n` of the block. -/
def stageOut (n : Nat) (s : State) (bass : Table Int 12) (zone : List Int) : Table Int 12 :=
  Table.tabulate fun i =>
    gainSample (stageInput s bass zone i) (coefAt n (s.channel i).early (s.channel i).coef)
      ((s.channel i).active.inverted && !bypassed s i)

/-- The gain stage, the delay lines and the zone line for frame `n` of the block (R80, R81). -/
def outputFrame (n : Nat) (bass : Table Int 12) (zone : List Int) (s : State) : State :=
  let y := stageOut n s bass zone
  let k := coefAt n s.gain.zoneEarly s.gain.zoneCoef
  let t := s.onPins fun p =>
    { p with
      slots := Table.tabulate fun i => if bypassed s i then y.get i else leaveDelay (y.get i) (s.channel i)
      zone := (gainSample (zone.getD 0 0) k false, gainSample (zone.getD 1 0) k false) }
  t.onGain fun g =>
    { g with
      burst := g.burst.map advanceBurst
      channels := g.channels.mapIdx fun i c =>
        if s.isPresent i then pushDelay (if bypassed s i then 0 else y.get i) c else c }

/-! ## One output frame, one block -/

/-- Output frame `n` of a block: the D and S port frames that come before it, the two converters, the renderer, the gain
stage. -/
def renderFrame (n : Nat) (arrived : List PortFrame) (s : State) : State :=
  let a := arrived.foldl (fun u f => deliverClocked f.port f.samples u) s
  let m := readConverter .main a
  let z := readConverter .zone m.2
  let e := takeEnergy m.1 z.2
  let b := routeBass e.render (matrixOut e.render m.1)
  outputFrame n b.1 z.1 (e.onRender fun r => { r with bass := b.2 })

/-- The frames of a block from frame `n` on, in order. -/
def renderFrom : Nat → List (List PortFrame) → State → State
  | _, [], s => s
  | n, f :: rest, s => renderFrom (n + 1) rest (renderFrame n f s)

/-- What the A ports gave is brought into line with the frames of a block. -/
def alignConverters (n : Nat) (s : State) : State :=
  (s.onConv .main (alignGiven (laneCount .main) n)).onConv .zone (alignGiven (laneCount .zone) n)

/-- The frames of a block, in order. -/
def renderBlock (block : List (List PortFrame)) (s : State) : State :=
  renderFrom 0 block (alignConverters block.length s)

/-! ## CONVERTER_FILLED and CONVERTER_SLIP (R38, R40) -/

/-- The frames that fill or overfill a route's converter; the port delivers them to both converters. Those of an A port are
frames as the port delivers them, trimmed and with their clips counted before (log entry 11). -/
def deliverAll (frames : List (List Sample)) (p : Fin 10) (s : State) : State :=
  frames.foldl (fun u f => if hasClock p then deliverClocked p f u else deliver p (f.map (·.toInt)) u) s

/-- The writes that fill a FILLING converter (R38). -/
def fillConverter (r : RouteId) (frames : List (List Sample)) (s : State) : State :=
  match (s.route r).conv.input with
  | some i => if (s.route r).conv.state = .filling then deliverAll frames i.port s else s
  | none => s

/-- A slip of a RUNNING converter (R40): the writes that overfill it, or, without any, an empty slip. -/
def slipConverter (r : RouteId) (frames : List (List Sample)) (s : State) : State :=
  match (s.route r).conv.input with
  | some i =>
    if (s.route r).conv.state = .running ∧ hasClock i.port = true then
      if frames = [] then slipEvent i (s.onConv r fun c => { c with state := .filling, fifo := [] })
      else deliverAll frames i.port s
    else s
  | none => s

/-! ## The boundary (R39, R62, R66, R76) -/

/-- A RENDER_MODE request takes effect (R66, R57). -/
def takeRenderMode (s : State) : State :=
  if s.render.modeDue then routeEvent rederive (s.onRender fun r => { r with modeDue := false }) else s

/-- Step 1 of R76; an allocation may change LIPSYNC_LIMITED (R41). -/
def loadTransfer (s : State) : State := routeEvent loadMarked s

/-- The render-block boundary at the end of a block: a RENDER_MODE that takes effect and the re-layout point come before the
load and the levels of R76 (log entry 11). -/
def blockBoundary (block : List (List PortFrame)) (s : State) : State :=
  let rendered := renderBlock block s
  let ticked := { rendered with now := rendered.now + 1 }
  let steered := stepConverters (steeringUpdate ticked)
  let laid := relayoutCheck (takeRenderMode steered)
  let levels := boundaryLevels (loadTransfer laid)
  let faded := fadeCheck .zone (fadeCheck .main (redelayCheck levels))
  measureBoundary s.measure.run faded

end Sys2Proof.Machine
end

