-- ==== Sys2Proof/Machine/Bus.lean ====
section
/-! DEFINITION. The auxiliary bus controller (chapter 8), but for the return of outcomes: the requester slots, the rotation,
the grant and the post. -/

namespace Sys2Proof.Machine

/-- The transaction in a requester's slot (R163). -/
def slotOf (b : Bus) : Requester → Option Transaction
  | .tuner => b.tunerSlot
  | .protect => b.protectSlot
  | .relay => b.relaySlot

def setSlot (q : Requester) (t : Option Transaction) (b : Bus) : Bus :=
  match q with
  | .tuner => { b with tunerSlot := t }
  | .protect => { b with protectSlot := t }
  | .relay => { b with relaySlot := t }

/-- The cyclic order TUNER, PROTECT, RELAY, beginning after the last granted (R167). -/
def rotation : Requester → List Requester
  | .tuner => [.protect, .relay, .tuner]
  | .protect => [.relay, .tuner, .protect]
  | .relay => [.tuner, .protect, .relay]

/-! ## The sequence on the bus (R165, R166) -/

/-- Whether the controller sends the address in write direction (R165 step 2). -/
def writes (t : Transaction) : Bool := decide (t.write ≠ []) || decide (t.readCount = 0)

/-- Step 1: a start, or a repeated start in HELD. -/
def opening (st : BusState) : List BusMove := if st = .held then [.again] else [.start]

/-- Step 2: the address in write direction and the write bytes. -/
def writePart (t : Transaction) : List BusMove := if writes t then .address t.address false :: t.write.map .write else []

/-- The opening of step 3: the address in read direction, after a repeated start if step 2 sent anything. -/
def readOpening (t : Transaction) : List BusMove :=
  if t.readCount = 0 then [] else (if writes t then [.again] else []) ++ [.address t.address true]

/-- The bytes of step 3, each acknowledged but the last. -/
def readPart (bytes : List Byte) : List BusMove := bytes.mapIdx fun k b => .read b (decide (k + 1 < bytes.length))

/-- What the controller does after the opening when the partners acknowledge everything (R165): no stop where a hold
begins. -/
def doneMoves (t : Transaction) (bytes : List Byte) : List BusMove :=
  writePart t ++ readOpening t ++ readPart bytes ++ if t.hold then [] else [.stop]

/-- Whether a transaction can meet a NACK of its address in that direction. -/
def sendsAddress (t : Transaction) (reading : Bool) : Bool := if reading then decide (t.readCount ≠ 0) else writes t

/-- What the controller does after the opening when the address is not acknowledged (R166). -/
def nackAddrMoves (t : Transaction) (reading : Bool) : List BusMove :=
  (if reading then writePart t ++ readOpening t else [.address t.address false]) ++ [.stop]

/-- What the controller does after the opening when write byte `i` is not acknowledged (R166). -/
def nackDataMoves (t : Transaction) (i : Nat) : List BusMove := (writePart t).take (i + 2) ++ [.stop]

/-- The controller does more on the bus. -/
def moveOn (l : List BusMove) (b : Bus) : Bus := { b with moves := b.moves ++ l }

/-- The controller begins a new sequence on the bus; the one before it is kept (log entry 18). -/
def beginMoves (l : List BusMove) (b : Bus) : Bus := { b with moves := l, movesBefore := b.moves }

/-- The bus is granted to a requester: its transaction starts. A start takes the speed in force; the repeated start of a
continuation keeps that of the held sequence (R165, R168, R176). -/
def grantTo (q : Requester) (b : Bus) : Bus :=
  { beginMoves (opening b.state) b with
    state := .active
    lineFast := if b.state = .held then b.lineFast else b.fast
    last := q
    inProgress := some q
    hold := none }

/-- The arbiter (R167). -/
def grant (b : Bus) : Bus :=
  match b.state with
  | .idle =>
    match (rotation b.last).find? fun q => (slotOf b q).isSome with
    | some q => grantTo q b
    | none => b
  | .held => if b.relaySlot.isSome then grantTo .relay b else b
  | _ => b

/-- A requester posts a transaction into its empty slot while the bus is not BUS_DOWN (R163, R167). -/
def busPost (q : Requester) (t : Transaction) (s : State) : State := s.onBus fun b => grant (setSlot q (some t) b)

/-- An AUX notice with reason STUCK (R173, R198). -/
def stuckNotice (q : Option Requester) (address : Byte) (line : StuckLine) (s : State) : State :=
  emit .aux
    ([0, busStateCode s.bus.state] ++ optional 1 (q.map fun x => [requesterCode x])
      ++ [address, match line with
        | .dataLow => 0
        | .clockLow => 1]
      ++ u16 s.bus.nacks ++ u16 s.bus.stucks ++ u16 s.bus.holdTimeouts)
    s

/-- An AUX notice with reason BUS_STATE (R173, R198). -/
def busNotice (s : State) : State :=
  emit .aux
    ([1, busStateCode s.bus.state] ++ optional 1 none ++ [0, 0] ++ u16 s.bus.nacks ++ u16 s.bus.stucks
      ++ u16 s.bus.holdTimeouts)
    s

end Sys2Proof.Machine
end

