-- ==== Sys2Proof/Machine/Tuner.lean ====
section
/-! DEFINITION. The tuner unit (chapter 7): rasters, states, hush, tuning, listening and AGC, seek and scan, and its
transactions. A step that calls for a transaction answers with that call beside the state; `tunerGo` posts it. -/

namespace Sys2Proof.Machine

/-! ## Bands and rasters (R138) -/

def rasterLow (b : Band) (step : Nat) : Nat :=
  match b with
  | .fm => if step = 200 then 87900 else 87500
  | .am => if step = 10 then 530 else 522

def rasterHigh (b : Band) (step : Nat) : Nat :=
  match b with
  | .fm => if step = 200 then 107900 else 108000
  | .am => 1710

def TunerSettings.step (x : TunerSettings) : Band → Nat
  | .fm => x.fmStep
  | .am => x.amStep

def TunerSettings.level (x : TunerSettings) : Band → Nat
  | .fm => x.fmLevel
  | .am => x.amLevel

def TunerSettings.quality (x : TunerSettings) : Band → Nat
  | .fm => x.fmQuality
  | .am => x.amQuality

/-- A frequency inside the band at a step (R138). -/
def inBand (b : Band) (step f : Nat) : Bool := decide (rasterLow b step ≤ f) && decide (f ≤ rasterHigh b step)

/-- A channel of the band's raster at a step (R138). -/
def isChannel (b : Band) (step f : Nat) : Bool := inBand b step f && decide ((f - rasterLow b step) % step = 0)

/-- The nearest channel of the raster, a tie taking the higher one (R138, R152). -/
def nearestChannel (b : Band) (step f : Nat) : Nat :=
  let lo := rasterLow b step
  let n := clampInt 0 ((rasterHigh b step - lo) / step : Nat) (roundDiv ((f : Int) - lo) step)
  lo + n.toNat * step

/-- The next channel of a seek, wrapping at the ends of the raster (R147). -/
def nextChannel (b : Band) (step : Nat) (up : Bool) (f : Nat) : Nat :=
  if up then if f = rasterHigh b step then rasterLow b step else f + step
  else if f = rasterLow b step then rasterHigh b step else f - step

/-- The settle time of a band (R144). -/
def settleTime : Band → Nat
  | .fm => 8
  | .am => 40

def Tuner.step (t : Tuner) : Nat := t.settings.step t.band

def Tuner.list (t : Tuner) : Band → List Station
  | .fm => t.fmList
  | .am => t.amList

def Tuner.setList (t : Tuner) (b : Band) (l : List Station) : Tuner :=
  match b with
  | .fm => { t with fmList := l }
  | .am => { t with amList := l }

/-! ## Notices (R151, R198) -/

def tunerBody (reason : Byte) (t : Tuner) : List Byte :=
  [reason, tunerStateCode t.state, bandCode t.band] ++ u32 t.frequency ++ [flagCode t.mono] ++ u8 t.level ++ u8 t.quality
    ++ [flagCode t.stereo] ++ u8 t.failRun

/-- The TUNER notice with reason STATE (R151), with the record as it stands. -/
def stateNotice (s : State) : State := emit .tuner (tunerBody 0 s.tuner) s

/-! ## Leaving a step -/

/-- The tuner leaves the step it was in: an outstanding outcome will return stale, a deferred post is dropped, and the
settle timer is stopped (R141, R144, R148). -/
def abandon (t : Tuner) : Tuner :=
  { t with outstanding := t.outstanding.map fun o => (o.1, true), deferred := none, settle := none }

/-- Every field present only in some states becomes absent, and the timers stop. -/
def leaveState (t : Tuner) : Tuner :=
  { abandon t with op := none, seek := none, scan := none, hush := none, poll := none }

/-! ## Entering states (R143 to R149) -/

/-- Whether the STATE notice of the event is due, or has been queued before a completion of the same event. -/
inductive NoticeDue where
  | no
  | due
  | told
  deriving DecidableEq, Repr

/-- A state, the transaction that it calls for, and its STATE notice: an event that changes the tuner state queues one
notice, with the record as it stands after the event (R151). -/
structure Called where
  state : State
  call : Option TunerStep
  notice : NoticeDue

/-- The notice of the event that goes on with another step. -/
def NoticeDue.after (old new : NoticeDue) : NoticeDue :=
  match new with
  | .no => old
  | .due | .told => new

/-- The STATE notice is queued if it is due. -/
def announce (k : NoticeDue) (s : State) : State := if k = .due then stateNotice s else s

/-- TUNING to a band, frequency and forced mono (R144). -/
def enterTuning (b : Band) (f : Nat) (mono : Bool) (s : State) : Called :=
  ⟨s.onTuner fun t => { leaveState t with state := .tuning, band := b, frequency := f, mono := mono, failRun := 0 },
    some .tuneWrite, if s.tuner.state = .tuning then .no else .due⟩

/-- LISTENING (R145): the poll timer starts and the listening event is raised. -/
def enterListening (s : State) : State :=
  listeningEvent (s.onTuner fun t => { leaveState t with state := .listening, poll := some (s.now + 50) })

/-- SEEKING (R147): the first visit is to the next channel in the direction. -/
def enterSeeking (up : Bool) (s : State) : Called :=
  ⟨s.onTuner fun t =>
      { leaveState t with
        state := .seeking
        mono := false
        failRun := 0
        seek := some (up, t.frequency)
        frequency := nextChannel t.band t.step up t.frequency },
    some .visitWrite, .due⟩

/-- SCANNING (R149): the first visit is to the lowest channel. -/
def enterScanning (s : State) : Called :=
  ⟨s.onTuner fun t =>
      { leaveState t with
        state := .scanning
        mono := false
        failRun := 0
        scan := some ⟨t.frequency, t.mono, [], none, 0, false⟩
        frequency := rasterLow t.band t.step },
    some .visitWrite, .due⟩

/-- The pending operation of a hush begins (R143). -/
def beginOp (s : State) : Called :=
  match s.tuner.op with
  | some (.tune b f mono) => enterTuning b f mono s
  | some (.seek up) => enterSeeking up s
  | some .scan => enterScanning s
  | none => ⟨s, none, .no⟩

/-! ## Completions of SEEK and SCAN (R148, R150, R198) -/

/-- The SEEK in flight completes. -/
def completeSeek (o : Completion) (s : State) : State :=
  match s.tuner.opTag with
  | some tag =>
    let t := s.tuner
    complete 0x4A tag o ([bandCode t.band] ++ u32 t.frequency ++ u8 t.level ++ u8 t.quality ++ [flagCode t.stereo])
      (s.onTuner fun t => { t with opTag := none })
  | none => s

/-- The SCAN in flight completes; `w` is its work, absent while it was pending. DESIGN CHOICE (log entry 13): the completion of a
SCAN that was pending carries LIST_FULL clear and a dropped count of 0, which the record has in SCANNING only (R139). -/
def completeScan (o : Completion) (w : Option ScanWork) (s : State) : State :=
  match s.tuner.opTag with
  | some tag =>
    let t := s.tuner
    complete 0x4B tag o
      ([bandCode t.band] ++ u8 (t.list t.band).length
        ++ [flagCode ((w.map (·.full)).getD false)] ++ u8 ((w.map (·.dropped)).getD 0))
      (s.onTuner fun t => { t with opTag := none })
  | none => s

/-- A SEEK or SCAN in flight, running or pending, completes ABORTED (R142, R148, R150). -/
def abortOp (s : State) : State :=
  match s.tuner.state, s.tuner.op with
  | .seeking, _ | .hushing, some (.seek _) => completeSeek .aborted s
  | .scanning, _ | .hushing, some .scan => completeScan .aborted s.tuner.scan s
  | _, _ => s

/-! ## Visits (R146 to R150) -/

/-- The seek ends in LISTENING with an outcome (R148). -/
def endSeek (o : Completion) (s : State) : Called := ⟨completeSeek o (stateNotice (enterListening s)), none, .told⟩

/-- The end of a visit of a seek (R147). -/
def seekVisited (qualifies : Bool) (s : State) : Called :=
  match s.tuner.seek with
  | some (up, start) =>
    if 3 ≤ s.tuner.failRun then endSeek .busFault s
    else if s.tuner.frequency = start then endSeek .emptyBand s
    else if qualifies then endSeek .found s
    else ⟨s.onTuner fun t => { t with frequency := nextChannel t.band t.step up t.frequency }, some .visitWrite, .no⟩
  | none => ⟨s, none, .no⟩

/-- A candidate is closed: appended while the list has room, dropped and counted otherwise (R149). -/
def closeCandidate (w : ScanWork) : ScanWork :=
  match w.candidate with
  | some c =>
    if w.list.length < 48 then { w with list := w.list ++ [c], candidate := none }
    else { w with candidate := none, full := true, dropped := count8 w.dropped }
  | none => w

/-- The scan treats the channel visited (R149). -/
def treatChannel (qualifies : Bool) (c : Station) (w : ScanWork) : ScanWork :=
  if qualifies then
    match w.candidate with
    | some old => if old.level < c.level then { w with candidate := some c } else w
    | none => { w with candidate := some c }
  else closeCandidate w

/-- The end of a visit of a scan (R149, R150). -/
def scanVisited (qualifies : Bool) (s : State) : Called :=
  match s.tuner.scan with
  | some w =>
    let t := s.tuner
    if 3 ≤ t.failRun then ⟨completeScan .busFault (some w) (stateNotice (enterListening s)), none, .told⟩
    else
      let w' := treatChannel qualifies ⟨t.frequency, t.level, t.quality, t.stereo⟩ w
      if t.frequency = rasterHigh t.band t.step then
        let done := closeCandidate w'
        let u := completeScan .done (some done) (s.onTuner fun t => t.setList t.band done.list)
        enterTuning t.band w.returnFrequency w.returnMono u
      else ⟨s.onTuner fun t => { t with scan := some w', frequency := t.frequency + t.step }, some .visitWrite, .no⟩
  | none => ⟨s, none, .no⟩

/-- The end of a visit (R147, R149). -/
def visited (qualifies : Bool) (s : State) : Called :=
  match s.tuner.state with
  | .seeking => seekVisited qualifies s
  | .scanning => scanVisited qualifies s
  | _ => ⟨s, none, .no⟩

/-! ## Outcomes (R141, R144 to R147) -/

/-- The reception that a status read reports (R141). -/
def storeRead (bytes : List Byte) (t : Tuner) : Tuner :=
  { t with
    level := min (byteAt bytes 0).toNat 127
    quality := min (byteAt bytes 1).toNat 15
    stereo := decide (t.band = .fm) && (byteAt bytes 2).getLsbD 0 }

/-- The settle timer of the band starts (R144, R146). -/
def startSettle (s : State) : State := s.onTuner fun t => { t with settle := some (s.now + settleTime t.band) }

/-- A failed write or read in TUNING (R144): made again, and after the third LISTENING with no reception. -/
def tuningFailed (again : TunerStep) (s : State) : Called :=
  if s.tuner.failRun < 3 then ⟨s, some again, .no⟩
  else ⟨enterListening (s.onTuner fun t => { t with level := 0, quality := 0, stereo := false }), none, .due⟩

/-- Whether the channel just read qualifies (R146). -/
def channelQualifies (t : Tuner) : Bool :=
  decide (t.settings.level t.band ≤ t.level) && decide (t.settings.quality t.band ≤ t.quality)

/-- The AGC loop at a listening read (R145). -/
def agcStep (t : Tuner) : Tuner :=
  if t.agcMode = .closed then
    { t with agcA := (clampInt 0 1023 ((t.agcA : Int) - 4 * ((t.level : Int) - t.agcTarget))).toNat }
  else t

/-- The success of a listening read (R145): AUX when the run stood at 3 or more, else STEREO when the flag changed. -/
def listenSuccess (bytes : List Byte) (run : Nat) (s : State) : State :=
  let t := s.onTuner fun t => agcStep (storeRead bytes t)
  if 3 ≤ run then emit .tuner (tunerBody 2 t.tuner) t
  else if t.tuner.stereo ≠ s.tuner.stereo then emit .tuner (tunerBody 1 t.tuner) t
  else t

/-- The failure of a listening read (R145). -/
def listenFailure (s : State) : State :=
  let t := s.onTuner fun t => { t with level := 0, quality := 0 }
  if s.tuner.failRun = 3 then emit .tuner (tunerBody 2 t.tuner) t else t

/-- The success of a step's transaction. -/
def stepDone (st : TunerStep) (bytes : List Byte) (run : Nat) (s : State) : Called :=
  match st with
  | .tuneWrite | .visitWrite => ⟨startSettle s, none, .no⟩
  | .tuneRead => ⟨enterListening (s.onTuner (storeRead bytes)), none, .due⟩
  | .listenRead => ⟨listenSuccess bytes run s, none, .no⟩
  | .visitRead =>
    let t := s.onTuner (storeRead bytes)
    visited (channelQualifies t.tuner) t

/-- The failure of a step's transaction. -/
def stepFailed (st : TunerStep) (s : State) : Called :=
  match st with
  | .tuneWrite => tuningFailed .tuneWrite s
  | .tuneRead => tuningFailed .tuneRead s
  | .listenRead => ⟨listenFailure s, none, .no⟩
  | .visitWrite | .visitRead => visited false (s.onTuner fun t => { t with level := 0, quality := 0 })

/-- An outcome that is not stale: the failure run, then the step's own effect (R141). -/
def tunerTake (st : TunerStep) (o : BusOutcome) (s : State) : Called :=
  match o with
  | .done bytes => stepDone st bytes s.tuner.failRun (s.onTuner fun t => { t with failRun := 0 })
  | _ => stepFailed st (s.onTuner fun t => { t with failRun := count8 t.failRun })

/-! ## Posting (R141, R199) -/

/-- The band code of a tune write (R141). -/
def tuneCode (t : Tuner) : Byte :=
  match t.band, t.mono with
  | .fm, false => 0
  | .am, _ => 1
  | .fm, true => 2

/-- The transaction of a step: a tune write or a status read (R141, R199). -/
def tunerTransaction (st : TunerStep) (t : Tuner) : Transaction :=
  let f : Word32 := BitVec.ofNat 32 t.frequency
  match st with
  | .tuneWrite | .visitWrite =>
    ⟨t.settings.address, [0, tuneCode t, f.extractLsb' 16 8, f.extractLsb' 8 8, f.extractLsb' 0 8], 0, false⟩
  | .tuneRead | .listenRead | .visitRead => ⟨t.settings.address, [8], 3, false⟩

/-- A call for a transaction is served (R141): deferred while one is outstanding, failed at once in BUS_DOWN (R172), posted
otherwise. A chain has at most five posts: a scan that fails at its last two channels and then the three writes of its
return tune. -/
def tunerGo : Nat → Called → State
  | 0, c => announce c.notice c.state
  | n + 1, c =>
    let s := c.state
    match c.call with
    | none => announce c.notice s
    | some st =>
      if s.tuner.outstanding ≠ none then announce c.notice (s.onTuner fun t => { t with deferred := some st })
      else if s.bus.state = .busDown then
        let d := tunerTake st .busFault s
        tunerGo n { d with notice := c.notice.after d.notice }
      else
        busPost .tuner (tunerTransaction st s.tuner)
          (announce c.notice (s.onTuner fun t => { t with outstanding := some (st, false) }))

/-- The call of a step is served. -/
def serve (c : Called) : State := tunerGo 8 c

/-- The bus controller returns an outcome to the tuner (R141). -/
def tunerReturn (o : BusOutcome) (s : State) : State :=
  match s.tuner.outstanding with
  | none => s
  | some (st, stale) =>
    let held := s.tuner.deferred
    let t := s.onTuner fun t => { t with outstanding := none, deferred := none }
    if stale then serve ⟨t, held, .no⟩
    else
      let c := tunerTake st o t
      serve { c with call := c.call.or held }

/-! ## Hush, running and quiet (R142, R143) -/

/-- HUSHING with a pending operation (R143); the hush is judged once the routes have acted on the hush start. -/
def enterHushing (o : TunerOp) (s : State) : State :=
  let t := hushStart (s.onTuner fun t => { leaveState t with state := .hushing, op := some o, hush := some (s.now + 250) })
  if hushHeld t then stateNotice t else serve (beginOp t)

/-- The judgement of the hush (R143), made at the end of every event. -/
def hushCheck (s : State) : State :=
  if s.tuner.state = .hushing ∧ hushHeld s = false then serve (beginOp s) else s

/-- The running event at the tuner (R142). -/
def tunerRunning (s : State) : State := serve (enterTuning s.tuner.band s.tuner.frequency s.tuner.mono s)

/-- The quiet event at the tuner (R142, R186). DESIGN CHOICE (log entry 12): the ABORTED completion of a SEEK or SCAN stands
before the STATE notice of the entry to OFF. -/
def tunerQuiet (s : State) : State :=
  announce (if s.tuner.state = .off then .no else .due) ((abortOp s).onTuner fun t => { leaveState t with state := .off })

end Sys2Proof.Machine
end

