-- ==== Sys2Proof/Machine/AuxReturn.lean ====
section
/-! DEFINITION. The return of outcomes on the auxiliary bus (chapter 8): the end of a transaction, a stuck bus, recovery and
BUS_DOWN, the hold and the retry timers, and the relay service's completion. -/

namespace Sys2Proof.Machine

/-! ## Outcomes and their requesters (R163, R174) -/

/-- The RELAY in flight completes (R174, R198). -/
def relayReturn (o : BusOutcome) (s : State) : State :=
  match s.bus.relayTag with
  | none => s
  | some tag =>
    let address : Byte := s.bus.relayAddress.setWidth 8
    let held := flagCode (decide (s.bus.state = .held))
    let t := s.onBus fun b => { b with relayTag := none }
    match o with
    | .done bytes => complete 0x58 tag .done ([address, 0, 0, held] ++ u8 bytes.length ++ bytes) t
    | .nackAddr => complete 0x58 tag .nack [address, 1, 0, held, 0] t
    | .nackData i => complete 0x58 tag .nack ([address, 2] ++ u8 i ++ [held, 0]) t
    | .stuck => complete 0x58 tag .stuck [address, 0, 0, held, 0] t
    | .busFault => complete 0x58 tag .busFault [address, 0, 0, held, 0] t

/-- An outcome is returned to the requester that posted the transaction. -/
def returnOutcome (q : Requester) (o : BusOutcome) (s : State) : State :=
  match q with
  | .tuner => tunerReturn o s
  | .protect => pollOutcome o s
  | .relay => relayReturn o s

/-- The transaction of a requester is over: its slot becomes empty, the bus takes a state, and the outcome is returned. -/
def closeTransaction (q : Requester) (st : BusState) (o : BusOutcome) (s : State) : State :=
  returnOutcome q o (s.onBus fun b => { setSlot q none b with state := st, inProgress := none })

def arbitrate (s : State) : State := s.onBus grant

/-- A requester with a transaction in progress, and the transaction. -/
def running (b : Bus) : Option (Requester × Transaction) :=
  if b.state = .active then b.inProgress.bind fun q => (slotOf b q).map fun t => (q, t) else none

/-! ## The end of a transaction (R165, R166, R168) -/

/-- A NACK: what the controller did up to its stop, and the NACK counter (R166). -/
def refused (l : List BusMove) (s : State) : State := s.onBus fun b => { moveOn l b with nacks := count16 b.nacks }

/-- The transaction in progress ends with the partners' answer. An answer that the transaction cannot have, a read of
another length or a NACK of an address or a byte it does not send, is none (log entry 6). -/
def endTransaction (a : BusAnswer) (s : State) : State :=
  match running s.bus with
  | none => s
  | some (q, t) =>
    match a with
    | .done bytes =>
      if bytes.length = t.readCount then
        let u := s.onBus (moveOn (doneMoves t bytes))
        if t.hold then
          arbitrate (closeTransaction q .held (.done bytes) (u.onBus fun b => { b with hold := some (s.now + 50) }))
        else arbitrate (closeTransaction q .idle (.done bytes) u)
      else s
    | .nackAddr reading =>
      if sendsAddress t reading then arbitrate (closeTransaction q .idle .nackAddr (refused (nackAddrMoves t reading) s)) else s
    | .nackData i =>
      if i < t.write.length then arbitrate (closeTransaction q .idle (.nackData i) (refused (nackDataMoves t i) s)) else s

/-! ## A stuck bus (R170 to R172) -/

/-- A stuck bus is detected in a transaction, or while the bus is HELD (R170). No stop is made, and the recovery runs at the
speed in force (R171, R176). -/
def detectStuck (line : StuckLine) (s : State) : State :=
  let t := s.onBus fun b => { b with state := .recovering, lineFast := b.fast, hold := none, stucks := count16 b.stucks }
  match running s.bus with
  | some (q, x) => closeTransaction q .recovering .stuck (stuckNotice (some q) (x.address.setWidth 8) line t)
  | none => if s.bus.state = .held then stuckNotice none 0 line t else s

/-- A recovery succeeds (R171): a pulse found the data line high within nine, and both lines are high after the stop. -/
def recovered (l : RecoveryLines) : Bool := !l.clockHeld && (l.dataAfterPulse.take 9).any id && l.dataHigh && l.clockHigh

/-- What the controller does in a recovery (R171): pulses until the data line is high, nine at most, and a stop, unless
the clock is held low. -/
def recoveryMoves (l : RecoveryLines) : List BusMove :=
  let seen := l.dataAfterPulse.take 9
  let given := match seen.findIdx? id with
    | some k => k + 1
    | none => seen.length
  List.replicate given .pulse ++ if l.clockHeld then [] else [.stop]

/-- The waiting transaction of a requester, if it has one, fails with BUS_FAULT (R172). -/
def failWaiting (q : Requester) (s : State) : State :=
  if (slotOf s.bus q).isSome then closeTransaction q .busDown .busFault s else s

/-- The entry to BUS_DOWN (R172). -/
def busDownEntry (s : State) : State :=
  let t := s.onBus fun b => { b with state := .busDown, inProgress := none, retry := some (s.now + 1000), retrying := false }
  busNotice ((rotation s.bus.last).foldl (fun u q => failWaiting q u) t)

/-- A recovery ends (R171, R172). -/
def endRecovery (l : RecoveryLines) (s : State) : State :=
  let t := s.onBus (beginMoves (recoveryMoves l))
  match s.bus.state, s.bus.retrying with
  | .recovering, _ => if recovered l then arbitrate (t.onBus fun b => { b with state := .idle }) else busDownEntry t
  | .busDown, true =>
    if recovered l then
      arbitrate (busNotice (t.onBus fun b => { b with state := .idle, retry := none, retrying := false }))
    else t.onBus fun b => { b with retry := some (s.now + 1000), retrying := false }
  | _, _ => s

/-! ## Hold and retry timers (R169, R172) -/

/-- The hold timer has expired while the bus is HELD: the controller makes a stop (R169). -/
def holdExpired (s : State) : State :=
  arbitrate (s.onBus fun b =>
    { moveOn [.stop] b with state := .idle, hold := none, holdTimeouts := count16 b.holdTimeouts })

/-- The retry timer has expired in BUS_DOWN: a recovery runs at the speed in force (R172, R176). -/
def retryExpired (s : State) : State := s.onBus fun b => { b with retry := none, retrying := true, lineFast := b.fast }

end Sys2Proof.Machine
end

