-- ==== Sys2Proof/Machine/Power.lean ====
section
/-! DEFINITION. The operating states (section 9.5): waking, running, quieting and standby, what ends every event (the hush
judgement, power-up done, routes-silent), and the soft reset (each chapter's soft-reset values). -/

namespace Sys2Proof.Machine

/-! ## Waking and running (R185) -/

/-- WAKE is accepted: WAKING and the waking event. -/
def enterWaking (tag : Byte) (s : State) : State :=
  wakingEvent (s.onLink fun l => { l with opState := .waking, wakeTag := some tag })

/-- The WAKE in flight completes with the needed groups that are not ON. -/
def completeWake (o : Completion) (groups : List (Fin 6)) (s : State) : State :=
  match s.link.wakeTag with
  | some tag => complete 0x03 tag o (u8 (maskOf groups)) (s.onLink fun l => { l with wakeTag := none })
  | none => s

/-- Power-up done in WAKING: RUNNING, the running event at the routes and then at the tuner, and the WAKE's completion.
DESIGN CHOICE (log entry 12): the running event is an event of its own, so a group that the settle expiry turned ON, and that
a re-layout point of the running event turns OFF, has a PROTECT notice of each change (R110). -/
def enterRunning (s : State) : State :=
  let l := neededNotOn s
  let t := (s.onProtect fun p => { p with startList := none, leftFinished := [] }).onLink fun k => { k with opState := .running }
  completeWake (if l = [] then .done else .degraded) l (tunerRunning (routesRunning t))

/-! ## Quieting and standby (R186, R188) -/

/-- The quiet event at the routes, the tuner and the protection unit. -/
def quietEvent (s : State) : State := protectQuiet (tunerQuiet (routesQuiet s))

def enterQuietState (s : State) : State :=
  s.onLink fun l => { l with opState := .quieting, quietDeadline := some (s.now + 250) }

/-- Whether a run is there to abort (R130). -/
def runActive (s : State) : Bool := decide (s.runState = some .preparing) || decide (s.runState = some .probing)

/-- The abort event and the quiet event, of which either may be taken first (R186; log entry 4). -/
def abortAndQuiet (s : State) : State :=
  if runActive s then
    let t := s.drawFree
    if Config.abortFirst s.free then quietEvent (enterQuietState (abortRun t)) else abortRun (quietEvent (enterQuietState t))
  else quietEvent (enterQuietState s)

/-- STANDBY is accepted: a WAKE in flight completes ABORTED, and the part enters QUIETING. -/
def enterQuieting (tag : Byte) (s : State) : State :=
  abortAndQuiet ((completeWake .aborted (neededNotOn s) s).onLink fun l => { l with standbyTag := some tag })

/-- Routes-silent in QUIETING: power-down, groups-off, STANDBY, and the completion of the STANDBY request. -/
def enterStandby (s : State) : State :=
  let t := powerDown (s.onLink fun l => { l with quietDeadline := none })
  let u := (t.onProtect fun p => { p with tick := none }).onLink fun l => { l with opState := .standby, standbyTag := none }
  match s.link.standbyTag with
  | some tag => complete 0x04 tag .done [] u
  | none => u

/-! ## What ends every event -/

/-- Power-up done, when the start list has finished in WAKING (R98, R185). -/
def powerCheck (s : State) : State := if s.link.opState = .waking ∧ startListDone s = true then enterRunning s else s

/-- Routes-silent, when both routes are SILENT in QUIETING (R36, R186). -/
def silentCheck (s : State) : State := if s.link.opState = .quieting ∧ routesSilent s = true then enterStandby s else s

/-- The judgements that follow at the same event from what it left: the hush, power-up done, routes-silent. -/
def settle (s : State) : State := silentCheck (powerCheck (hushCheck s))

/-! ## Soft reset (R184, R189) -/

def softPort (x : Port) : Port := { State.resetPort with offsetTrim := x.offsetTrim, gainTrim := x.gainTrim }

/-- The renderer after a soft reset (R47, R48, R51, R58, R60 to R62, R67): the requested layout is put in force. -/
def softRenderer (zone : Bool) (r : Renderer) : Renderer :=
  let present := presentSlots r.requested zone
  { State.resetRenderer with
    requested := r.requested
    inForce := r.requested
    present := present
    zoneFeed := zone
    bass := bassTable r.requested present }

/-- A channel record after a soft reset, before its delays (R68). -/
def softChannel (c : Channel) : Channel := { State.resetChannel with active := c.active, pending := c.active }

/-- The delays after a soft reset are the allocation with LS 0, committed directly (R82). -/
def commitDirect (s : State) : State :=
  s.onGain fun g =>
    { g with
      demand := alignSum s
      channels := g.channels.mapIdx fun i c =>
        if s.isPresent i then { c with allocated := slotAlign s i, committed := slotAlign s i } else c }

def softGain (zone : Bool) (g : Gain) : Gain :=
  { State.resetGain with channels := g.channels.mapIdx fun _ c => softChannel c, zoneAssigned := zone }

/-- A group record after a soft reset, before its needed flag (R93). DESIGN CHOICE (log entry 15): the 1 ms readback checks are
timers of the record, so those still to be made are dropped, and the reset arms none for a line that it drives low, though R95
asks for one after each change of level; and it ends a debounce period that runs (R101). -/
def softGroup (x : Group) : Group :=
  let base := { State.resetGroup x.needed with sensor := x.sensor }
  if x.state = .latched then
    { base with
      state := .latched, cause := x.cause, faultCount := x.faultCount, attenuation := x.attenuation
      reported := x.attenuation }
  else base

/-- The protection unit after a soft reset (R93, R96, R104, R109, R111). -/
def softProtect (p : Protect) : Protect :=
  { State.resetProtect with
    groups := p.groups.mapIdx fun _ x => softGroup x
    settings := p.settings
    zoneRequested := p.zoneRequested
    zoneInForce := p.zoneRequested }

/-- The needed flags at a reset (R94). -/
def resetNeeded (s : State) : State :=
  s.onProtect fun p => { p with groups := p.groups.mapIdx fun g x => { x with needed := neededNow s g } }

/-- The measurement unit after a soft reset (R115, R116). -/
def softMeasurement (m : Measurement) : Measurement :=
  { State.resetMeasurement with
    results := m.results.mapIdx fun _ x => if x.status = .pending then bareResult .skipped else x }

/-- The tuner unit after a soft reset (R139, R140). -/
def softTuner (t : Tuner) : Tuner :=
  { leaveState t with
    state := .off, level := 0, quality := 0, stereo := false, failRun := 0, outstanding := none, opTag := none }

/-- The auxiliary bus controller after a soft reset (R164): a transaction that is cut and a hold end with a stop, which ends
the last sequence that is kept (log entry 18). -/
def softBus (b : Bus) : Bus :=
  { State.resetBus with
    fast := b.fast
    moves := if b.state = .active ∨ b.state = .held then b.moves ++ [.stop] else [] }

/-- The link unit after a soft reset (R184): the mask is kept, and the RESET notice follows it. -/
def softLink (now : Nat) (rateHigh : Bool) (l : Link) : Link :=
  { State.resetLink .restart rateHigh with
    mask := l.mask
    resetAt := now
    outbound := if l.mask.getLsbD NoticeClass.link.bit then [State.resetNotice .restart] else [] }

/-- The soft reset of every block. -/
def softReset (rateHigh : Bool) (s : State) : State :=
  let zone := s.protect.zoneRequested
  resetNeeded <| commitDirect
    { s with
      link := softLink s.now rateHigh s.link
      ports := s.ports.mapIdx fun _ x => softPort x
      main := State.resetRoute
      zone := State.resetRoute
      render := softRenderer zone s.render
      gain := softGain zone s.gain
      protect := softProtect s.protect
      measure := softMeasurement s.measure
      tuner := softTuner s.tuner
      bus := softBus s.bus
      pins := ⟨rateHigh, s.pins.encA, s.pins.encB, Table.fill 12 0, (0, 0), s.pins.sent⟩ }

/-- A hard reset of every block (each chapter's hard-reset values); the encoder lines are inputs and stay as they are. -/
def hardResetNow (cause : HardCause) (rateHigh : Bool) (s : State) : State :=
  { State.hardReset (match cause with
      | .power => .power
      | .pin => .pin) rateHigh with
    pins := ⟨rateHigh, s.pins.encA, s.pins.encB, Table.fill 12 0, (0, 0), []⟩
    free := s.free
    pending := s.pending }

end Sys2Proof.Machine
end

