-- ==== Sys2Proof/Machine/Reply.lean ====
section
/-! DEFINITION. What a request handler answers with: the state after the request, the status, and the reply body as a
function of the state in which it is formed. -/

namespace Sys2Proof.Machine

/-- The state after the request, its status, and the reply body after the status. -/
abbrev Answer := State × Status × (State → List Byte)

/-- A request that is refused, or that changes nothing: the body shows the values as they stand (R196). -/
def answer (st : Status) (body : State → List Byte) (s : State) : Answer := (s, st, body)

/-- BAD_VALUE for a field that names nothing: of the reply body only `shown` has values, and the `n` bytes after it are free
(log entry 2). -/
def answerFree (shown : List Byte) (n : Nat) (s : State) : Answer :=
  ({ s with free := s.free + n }, .badValue, fun _ => shown ++ freeBytes n s.free)

/-- The body of a reply (R196): BAD_LENGTH, NOT_FOUND and EMPTY carry the status byte alone. -/
def replyBody (st : Status) (body : List Byte) : List Byte :=
  match st with
  | .badLength | .notFound | .empty => [statusCode st]
  | _ => statusCode st :: body

/-- The long operations that hold a completion place (R182): WAKE, STANDBY, tuner, measurement, relay. -/
def inFlight (s : State) : Nat :=
  s.link.wakeTag.isSome.toNat + s.link.standbyTag.isSome.toNat + s.tuner.opTag.isSome.toNat
    + s.measure.run.isSome.toNat + s.bus.relayTag.isSome.toNat

/-- Completion places in use (R182). -/
def completionPlaces (s : State) : Nat := placesUsed .completion s.link.outbound + inFlight s

end Sys2Proof.Machine
end

