-- ==== Sys2Proof/Machine/RequestsPorts.lean ====
section
/-! DEFINITION. The requests of the port unit and of the route controller (R20 to R22, R42 to R46): PORT_SET, PORT_READ,
ADC_TRIM, SOURCE_SET, SOURCE_READ, SELECT and ROUTE_READ. -/

namespace Sys2Proof.Machine

/-! ## Ports -/

/-- The port that a byte numbers. -/
def portOf (b : Byte) : Option (Fin 10) := numberIndex 10 b.toNat

/-- NOT_FOUND. -/
def notFound (s : State) : Answer := answer .notFound (fun _ => []) s

def isAdc (p : Fin 10) : Bool := !hasClock p

/-- A field that exists only on some ports (R2, R196). -/
def onlyOn (has : Bool) (size : Nat) (f : List Byte) : List Byte := optional size (if has then some f else none)

/-- PORT_SET (R20). The port number is checked before the enable field (log entry 20). -/
def onPortSet (r : Request) (s : State) : Answer :=
  match portOf (byteAt r.body 0) with
  | none => notFound s
  | some p =>
    let show0 (t : State) : List Byte := [number p, lockCode (t.port p).lock]
    match boolOf (byteAt r.body 1) with
    | none => answer .badValue show0 s
    | some on => (enablePort p on s, .ok, show0)

/-- The port record in the order of R2. -/
def portBytes (p : Fin 10) (x : Port) : List Byte :=
  let lane := decide (portKind p = .lane)
  let biphase := decide (portKind p = .biphase)
  [flagCode x.enabled, lockCode x.lock] ++ u32 x.period ++ u32 x.high ++ u32 x.low ++ onlyOn lane 2 (u16 x.bits)
    ++ [formatCode x.format] ++ u8 x.channels ++ [rateCode x.rate]
    ++ onlyOn biphase 1 [flagCode x.nonAudio] ++ onlyOn biphase 1 (u8 x.wordLength) ++ onlyOn biphase 1 [flagCode x.blockSeen]
    ++ onlyOn (isAdc p) 2 (u16 x.clips) ++ u16 x.slips
    ++ onlyOn (isAdc p) 1 [x.offsetTrim] ++ onlyOn (isAdc p) 1 [x.gainTrim]

/-- PORT_READ (R21). The port number is checked before the clear flag (log entry 20). -/
def onPortRead (r : Request) (s : State) : Answer :=
  match portOf (byteAt r.body 0) with
  | none => notFound s
  | some p =>
    let stood := portBytes p (s.port p)
    match boolOf (byteAt r.body 1) with
    | some true => (s.onPort p fun x => { x with clips := 0, slips := 0 }, .ok, fun _ => stood)
    | some false => answer .ok (fun _ => stood) s
    | none => answer .badValue (fun _ => stood) s

/-- ADC_TRIM (R22). DEDUCED (log entry 8): the trims of the reply are optional fields, since a D or S port has none (R196). -/
def onAdcTrim (r : Request) (s : State) : Answer :=
  match portOf (byteAt r.body 0) with
  | none => notFound s
  | some p =>
    let show0 (t : State) : List Byte :=
      [number p] ++ onlyOn (isAdc p) 1 [(t.port p).offsetTrim] ++ onlyOn (isAdc p) 1 [(t.port p).gainTrim]
    if isAdc p then
      (s.onPort p fun x => { x with offsetTrim := byteAt r.body 1, gainTrim := byteAt r.body 2 }, .ok, show0)
    else answer .badValue show0 s

/-! ## Sources (R42 to R44) -/

/-- The source that a byte numbers. -/
def sourceOf (b : Byte) : Option (Fin 12) := numberIndex 12 b.toNat

/-- The channels a port can carry (R42). -/
def portMax (p : Fin 10) : Nat := if portKind p = .lane then 8 else 2

/-- The layout of a source of `count` channels (R42 step 5, R197): that many labels other than SW1 and SW2, none twice, and
zero bytes after them. -/
def sourceLayout (count : Nat) (raw : List Byte) : Option (List Label) :=
  let labels := (raw.take count).filterMap labelOf
  if labels.length = count ∧ labels.Nodup ∧ (∀ x ∈ labels, x ≠ .unassigned ∧ x ≠ .sw1 ∧ x ≠ .sw2)
      ∧ (raw.drop count).all (· == 0) then some labels
  else none

/-- The source record of a raw one on a port (R42 steps 3 to 6), with whether a clamp changed a value. -/
def parseSource (p : Fin 10) (x : RawSource) : Option (Source × Bool) :=
  let first := x.first.toNat
  let count := x.count.toNat
  if portKind p = .micAdc ∨ 7 < first ∨ count = 0 ∨ 8 < count ∨ portMax p < first + count then none
  else
    match sourceLayout count x.layout, boolOf x.enabled, boolOf x.tunerBound, boolOf x.swap, modeOf x.mode with
    | some layout, some enabled, some bound, some swap, some mode =>
      let trim := clampInt (-120) 120 x.trim.toInt
      let lip := min x.lipsync.toNat 250
      some (⟨enabled, p, first, count, layout, trim, lip, bound, swap, mode⟩,
        decide (trim ≠ x.trim.toInt) || decide (lip ≠ x.lipsync.toNat))
    | _, _, _, _, _ => none

/-- SOURCE_SET (R42, R43). -/
def onSourceSet (r : Request) (s : State) : Answer :=
  match sourceOf (byteAt r.body 0), portOf (byteAt r.body 2) with
  | some i, some p =>
    let show0 (t : State) : List Byte := number i :: sourceBytes (t.source i)
    match parseSource p (rawSourceAt r.body 1) with
    | none => answer .badValue show0 s
    | some (x, clamped) =>
      (if x = s.source i then s else sourceChanged i (s.setSource i x), clampStatus clamped, show0)
  | _, _ => notFound s

/-- SOURCE_READ (R44). -/
def onSourceRead (r : Request) (s : State) : Answer :=
  match sourceOf (byteAt r.body 0) with
  | none => notFound s
  | some i => answer .ok (fun t => number i :: sourceBytes (t.source i)) s

/-! ## Routes (R45, R46) -/

/-- The selection that a byte names: no source for 0, and nothing above 12. -/
def selectionOf (b : Byte) : Option (Option (Fin 12)) := if b = 0 then some none else (sourceOf b).map some

def selectBytes (r : RouteId) (s : State) : List Byte :=
  [routeCode r, routeStateCode (s.route r).state, sourceNumber (s.route r).selected]
    ++ optional 1 ((s.route r).pending.map fun p => [sourceNumber p])

/-- SELECT (R45). DESIGN CHOICE (log entry 20): the route code is checked first, the source id after it, and BUSY last. -/
def onSelect (r : Request) (s : State) : Answer :=
  match routeOf (byteAt r.body 0) with
  | none => answerFree [byteAt r.body 0] 4 s
  | some k =>
    match selectionOf (byteAt r.body 1) with
    | none => notFound s
    | some sel =>
      if k = .main ∧ s.measure.run ≠ none then answer .busy (selectBytes k) s
      else (selectSource k sel s, .ok, selectBytes k)

/-- ROUTE_READ (R46). -/
def onRouteRead (r : Request) (s : State) : Answer :=
  match routeOf (byteAt r.body 0) with
  | none => answerFree [byteAt r.body 0] 16 s
  | some k => answer .ok (fun t => routeStatusBytes k (t.route k)) s

end Sys2Proof.Machine
end

