-- ==== Sys2Proof/Machine/RequestsRender.lean ====
section
/-! DEFINITION. The requests of the renderer (R64 to R67): LAYOUT_SET, LAYOUT_READ, RENDER_MODE and STEER_SET, with the
checking of a layout that PROFILE_WRITE shares. -/

namespace Sys2Proof.Machine

/-! ## Layouts (R64) -/

def crossovers : List Nat := [40, 60, 80, 90, 100, 110, 120, 150, 200]

/-- The nearest crossover of the list, a tie taking the higher one (R64 step 3). -/
def nearestCrossover (f : Nat) : Nat :=
  crossovers.foldl (fun best c => if offNominal f c ≤ offNominal f best then c else best) 40

/-- The position that a slot may take (R64 step 2). -/
def positionFor (i : Fin 12) (b : Byte) : Option Label :=
  match labelOf b with
  | some p =>
    if i = 0 then if p = .fl then some p else none
    else if i = 1 then if p = .fr then some p else none
    else if p = .fl ∨ p = .fr ∨ p = .lfe then none
    else some p
  | none => none

def sizeOf (b : Byte) : Option Size := [Size.large, .small][b.toNat]?

/-- A slot record of a raw one, with whether its crossover was replaced (R64 steps 2 and 3). The size and crossover of a
subwoofer or unassigned slot are not examined. -/
def parseSlot (i : Fin 12) (x : RawSlot) : Option (SlotLayout × Bool) :=
  match positionFor i x.position with
  | none => none
  | some p =>
    if p = .unassigned ∨ p = .sw1 ∨ p = .sw2 then some (⟨p, none⟩, false)
    else
      match sizeOf x.size with
      | none => none
      | some z =>
        let f := nearestCrossover x.crossover.toNat
        some (⟨p, some (z, f)⟩, decide (f ≠ x.crossover.toNat))

/-- The slot records of a layout block. -/
def parseSlots (raw : Fin 12 → RawSlot) : Option (Table (SlotLayout × Bool) 12) :=
  let parsed := allSlots.filterMap fun i => parseSlot i (raw i)
  if h : parsed.length = 12 then some ⟨parsed, h⟩ else none

/-- No position but UNASSIGNED stands on two slots (R64 step 2). -/
def positionsDistinct (l : Table SlotLayout 12) : Bool :=
  decide ((l.items.map (·.position)).filter (fun p => decide (p ≠ .unassigned))).Nodup

def givesSubwoofer (l : Table SlotLayout 12) : Bool :=
  l.items.any fun x => decide (x.position = .sw1) || decide (x.position = .sw2)

/-- FL and FR, if SMALL, become LARGE (R64 step 4). -/
def forceLarge (x : SlotLayout) : SlotLayout :=
  if x.position = .fl ∨ x.position = .fr then { x with bass := x.bass.map fun b => (.large, b.2) } else x

/-- The layout of a block by steps 2 to 4 of R64, with whether step 3 or 4 replaced a value. -/
def parseLayout (raw : Fin 12 → RawSlot) (option : Byte) : Option (Layout × Bool) :=
  match parseSlots raw, boolOf option with
  | some t, some lfe =>
    let slots := t.mapIdx fun _ e => e.1
    if positionsDistinct slots then
      let forced := if givesSubwoofer slots then slots else slots.mapIdx fun _ x => forceLarge x
      some (⟨forced, lfe⟩, t.items.any (·.2) || decide (forced ≠ slots))
    else none
  | _, _ => none

/-- A layout that passed is stored as the requested layout; the re-layout request is raised when it differs from the layout
in force or from the one it replaced (R64). -/
def storeLayout (l : Layout) (s : State) : State :=
  let t := s.onRender fun r => { r with requested := l }
  if l ≠ s.render.inForce ∨ l ≠ s.render.requested then relayoutRequest t else t

/-- LAYOUT_SET (R64). -/
def onLayoutSet (r : Request) (s : State) : Answer :=
  let show0 (t : State) : List Byte := layoutBytes t.render.requested
  if s.measure.run ≠ none then answer .busy show0 s
  else
    match parseLayout (rawSlotAt r.body 0) (byteAt r.body 48) with
    | none => answer .badValue show0 s
    | some (l, replaced) => (storeLayout l s, clampStatus replaced, show0)

/-! ## LAYOUT_READ (R65) -/

/-- An entry of the bass routing table: slot, crossover, receivers, as a list of two at most (DEDUCED, log entry 8). -/
def bassBytes (e : BassEntry) : List Byte := number e.slot :: u16 e.crossover ++ listField 1 2 (e.receivers.map fun i => [number i])

/-- The present set, with the position of each slot (R48; DEDUCED, log entry 8: as a list of slot and position). -/
def presentBytes (r : Renderer) : List Byte :=
  listField 2 12 (r.present.map fun i => [number i, labelCode (r.inForce.slots.get i).position])

/-- The reply with the in-force layout: present set, assignment and bass routing table are present, the due flag absent. -/
def inForceBytes (s : State) : List Byte :=
  layoutBytes s.render.inForce ++ optional 25 (some (presentBytes s.render)) ++ optional 1 (some [flagCode s.render.zoneFeed])
    ++ optional 67 (some (listField 6 11 (s.render.bass.map bassBytes))) ++ optional 1 none

/-- The reply with the requested layout: the due flag alone is present. -/
def requestedBytes (s : State) : List Byte :=
  layoutBytes s.render.requested ++ optional 25 none ++ optional 1 none ++ optional 67 none
    ++ optional 1 (some [flagCode s.main.relayoutDue])

/-- LAYOUT_READ (R65). -/
def onLayoutRead (r : Request) (s : State) : Answer :=
  match boolOf (byteAt r.body 0) with
  | some false => answer .ok inForceBytes s
  | some true => answer .ok requestedBytes s
  | none => answerFree [] 147 s

/-! ## RENDER_MODE and STEER_SET (R66, R67) -/

/-- The override that a mode code asks for; FOLLOW_SOURCE 4 removes it. -/
def overrideOf (b : Byte) : Option (Option RenderMode) := if b = 4 then some none else (modeOf b).map some

/-- RENDER_MODE (R66). -/
def onRenderMode (r : Request) (s : State) : Answer :=
  let show0 (t : State) : List Byte :=
    optional 1 (t.render.override.map fun m => [modeCode m]) ++ optional 1 (t.main.effMode.map fun m => [modeCode m])
  match overrideOf (byteAt r.body 0) with
  | none => answer .badValue show0 s
  | some m =>
    (s.onRender fun x => { x with override := m, modeDue := x.modeDue || s.mainAttached }, .ok, show0)

/-- STEER_SET (R67). -/
def onSteerSet (r : Request) (s : State) : Answer :=
  let k := (byteAt r.body 0).toNat
  let v := clampNat 2 8 k
  (s.onRender fun x => { x with steerRate := v }, clampStatus (decide (v ≠ k)), fun t => u8 t.render.steerRate)

end Sys2Proof.Machine
end

