-- ==== Sys2Proof/Machine/RequestsGain.lean ====
section
/-! DEFINITION. The requests of the gain unit (R84 to R92): VOLUME, VOLUME_STEP, MUTE, CHANNEL_SET, CHANNEL_READ, LOAD,
RAMP_SET, LIPSYNC and ENCODER_SET. -/

namespace Sys2Proof.Machine

/-! ## Volume and mute (R84 to R86) -/

def volumeBytes (k : RouteId) (s : State) : List Byte := routeCode k :: s16 (s.volume k)

/-- A route's volume is asked to become `v`, which the route's range clamps. -/
def askVolume (k : RouteId) (v : Int) (s : State) : Answer :=
  (setVolume k (clampVolume k v) 0 s, clampStatus (decide (clampVolume k v ≠ v)), volumeBytes k)

/-- VOLUME (R84). -/
def onVolume (r : Request) (s : State) : Answer :=
  match routeOf (byteAt r.body 0) with
  | none => answerFree [byteAt r.body 0] 2 s
  | some k => askVolume k (5 * roundDiv (wordAt r.body 1).toInt 5) s

/-- VOLUME_STEP (R85). -/
def onVolumeStep (r : Request) (s : State) : Answer :=
  match routeOf (byteAt r.body 0) with
  | none => answerFree [byteAt r.body 0] 2 s
  | some k => askVolume k (s.volume k + 5 * (byteAt r.body 1).toInt) s

/-- MUTE (R86). -/
def onMute (r : Request) (s : State) : Answer :=
  match routeOf (byteAt r.body 0) with
  | none => answerFree [byteAt r.body 0] 1 s
  | some k =>
    let show0 (t : State) : List Byte := [routeCode k, flagCode (t.muted k)]
    match boolOf (byteAt r.body 1) with
    | none => answer .badValue show0 s
    | some m => (setMute k m s, .ok, show0)

/-! ## Channels (R87 to R89) -/

/-- The slot that a byte numbers. -/
def slotNumber (b : Byte) : Option (Fin 12) := numberIndex 12 b.toNat

/-- The half that CHANNEL_SET writes, with whether a clamp changed a value (R87). -/
def clampHalf (distance trim : Word16) (inverted : Bool) : Half × Bool :=
  let d := min distance.toNat 1800
  let t := clampInt (-120) 120 trim.toInt
  (⟨d, t, inverted⟩, decide (d ≠ distance.toNat) || decide (t ≠ trim.toInt))

/-- CHANNEL_SET (R87). -/
def onChannelSet (r : Request) (s : State) : Answer :=
  match slotNumber (byteAt r.body 0) with
  | none => notFound s
  | some i =>
    let show0 (t : State) : List Byte := number i :: halfBytes (t.channel i).pending
    match boolOf (byteAt r.body 5), boolOf (byteAt r.body 6) with
    | some inverted, some immediate =>
      if immediate = true ∧ s.measure.run ≠ none then answer .busy show0 s
      else
        let h := clampHalf (wordAt r.body 1) (wordAt r.body 3) inverted
        (s.onChannel i fun c => { c with pending := h.1, marked := c.marked || immediate }, clampStatus h.2, show0)
    | _, _ => answer .badValue show0 s

/-- CHANNEL_READ (R88). -/
def onChannelRead (r : Request) (s : State) : Answer :=
  match slotNumber (byteAt r.body 0) with
  | none => notFound s
  | some i => answer .ok (fun t => channelBytes i (t.isPresent i) (t.channel i)) s

/-- Whether a slot mask has a bit above slot 12 (R194). -/
def straySlots (m : Word16) : Bool := decide (m.toNat / 4096 ≠ 0)

/-- LOAD (R89); 0xFFFF means ALL. -/
def onLoad (r : Request) (s : State) : Answer :=
  let m := wordAt r.body 0
  let show0 (t : State) : List Byte := u16 (maskOf (markedSlots t))
  if m = 0 ∨ (m ≠ 0xFFFF ∧ straySlots m = true) then answer .badValue show0 s
  else (markSlots (slotsOfMask m) s, .ok, show0)

/-! ## Ramps, lip-sync and encoder (R90 to R92) -/

/-- RAMP_SET (R90). -/
def onRampSet (r : Request) (s : State) : Answer :=
  let d := (byteAt r.body 0).toNat
  let u := (byteAt r.body 1).toNat
  let d' := clampNat 1 50 d
  let u' := clampNat 1 50 u
  (s.onGain fun g => { g with downStep := d', upStep := u' }, clampStatus (decide (d' ≠ d) || decide (u' ≠ u)),
    fun t => u8 t.gain.downStep ++ u8 t.gain.upStep)

/-- LIPSYNC (R91). -/
def onLipsync (r : Request) (s : State) : Answer :=
  let v := (wordAt r.body 0).toNat
  let v' := min v 250
  let t := if v' = s.gain.userLip then s else routeEvent allocate (s.onGain fun g => { g with userLip := v' })
  (t, clampStatus (decide (v' ≠ v)), fun t =>
    u8 t.gain.userLip ++ u8 t.gain.mainLip ++ u32 t.gain.lipFrames ++ u32 t.gain.demand ++ [flagCode t.main.limited])

/-- The encoder at an ENCODER_SET (R71, R72, R92). -/
def enableEncoder (on : Bool) (a b : Bool) (e : Encoder) : Encoder :=
  if e.enabled = on then e
  else if on then { e with enabled := true, refA := a, refB := b, count := 0 }
  else { e with enabled := false, count := 0 }

def clearErrors (clear : Bool) (e : Encoder) : Encoder := if clear then { e with errors := 0 } else e

/-- ENCODER_SET (R92); the error counter is shown as it stood before a clear. -/
def onEncoderSet (r : Request) (s : State) : Answer :=
  let errors := u16 s.gain.encoder.errors
  let show0 (t : State) : List Byte := [flagCode t.gain.encoder.enabled] ++ s8 t.gain.encoder.count ++ errors
  match boolOf (byteAt r.body 0), boolOf (byteAt r.body 1) with
  | some on, some clear =>
    (s.onGain fun g => { g with encoder := clearErrors clear (enableEncoder on s.pins.encA s.pins.encB g.encoder) }, .ok,
      show0)
  | _, _ => answer .badValue show0 s

end Sys2Proof.Machine
end

