-- ==== Sys2Proof/Machine/RequestsProtect.lean ====
section
/-! DEFINITION. The requests of the protection unit (R111 to R114): PROTECT_SET, PROTECT_READ, ZONE_AMP and FAULT_CLEAR. -/

namespace Sys2Proof.Machine

/-! ## PROTECT_SET (R111) -/

/-- A sensor address on the wire: 0xFF for none, and nothing for another value above 127 (R194). -/
def sensorOf (b : Byte) : Option (Option (BitVec 7)) :=
  if b = 0xFF then some none else if b.toNat ≤ 127 then some (some (b.setWidth 7)) else none

def sensorByte (x : Option (BitVec 7)) : Byte :=
  match x with
  | some a => a.setWidth 8
  | none => 0xFF

/-- The six sensor addresses of the body, if step 1 of R111 passes them. -/
def sensorTable (b : List Byte) (frontEnd : BitVec 7) : Option (Table (Option (BitVec 7)) 6) :=
  let parsed := allGroups.filterMap fun g =>
    match sensorOf (byteAt b (7 + g.1)) with
    | some x => if x = some frontEnd then none else some x
    | none => none
  if h : parsed.length = 6 then some ⟨parsed, h⟩ else none

/-- Step 2 of R111: the sensor of a group in FAULT_WAIT with cause THERMAL is neither removed nor changed. -/
def sensorHeld (x : Group) (new : Option (BitVec 7)) : Bool :=
  decide (x.state = .faultWait) && decide (x.cause = .thermal) && x.sensor.isSome && decide (x.sensor ≠ new)

/-- The settings of the body after the clamps of step 3. -/
def clampSettings (b : List Byte) : ProtectSettings :=
  let w := clampNat 60 110 (byteAt b 0).toNat
  { warn := w
    trip := clampNat (w + 5) 120 (byteAt b 1).toNat
    margin := clampNat 2 20 (byteAt b 2).toNat
    floor := clampInt (-400) (-30) (wordAt b 3).toInt
    debounce := clampNat 1 20 (byteAt b 5).toNat
    limit := clampNat 1 8 (byteAt b 6).toNat }

/-- Whether the clamps of step 3 changed a value. -/
def settingsClamped (b : List Byte) : Bool :=
  let p := clampSettings b
  decide (p.warn ≠ (byteAt b 0).toNat) || decide (p.trip ≠ (byteAt b 1).toNat) || decide (p.margin ≠ (byteAt b 2).toNat)
    || decide (p.floor ≠ (wordAt b 3).toInt) || decide (p.debounce ≠ (byteAt b 5).toNat)
    || decide (p.limit ≠ (byteAt b 6).toNat)

/-- A group takes its sensor address of a PROTECT_SET (R111). -/
def changeSensor (new : Option (BitVec 7)) (x : Group) : Group :=
  if x.sensor = new then x
  else
    { x with
      sensor := new, failRun := 0, sensorLost := false, lastTemp := none
      attenuation := if new = none then 0 else x.attenuation }

/-- A group takes the new floor (R111). -/
def changeFloor (floor : Int) (x : Group) : Group :=
  { x with attenuation := if x.sensorLost then floor else max floor x.attenuation }

/-- The stored values take effect (R111): in each group the sensor address first and the floor after it (log entry 20). -/
def storeProtection (p : ProtectSettings) (sensors : Table (Option (BitVec 7)) 6) (s : State) : State :=
  groupsEvent
    (fun t => t.onProtect fun q =>
      { q with groups := q.groups.mapIdx fun g x => changeFloor p.floor (changeSensor (sensors.get g) x) })
    (s.onProtect fun q => { q with settings := p })

/-- The shared settings, 7 bytes. -/
def settingsBytes (p : ProtectSettings) : List Byte :=
  u8 p.warn ++ u8 p.trip ++ u8 p.margin ++ s16 p.floor ++ u8 p.debounce ++ u8 p.limit

def protectSetBytes (s : State) : List Byte :=
  settingsBytes s.protect.settings ++ s.protect.groups.items.map fun x => sensorByte x.sensor

/-- PROTECT_SET (R111). -/
def onProtectSet (r : Request) (s : State) : Answer :=
  match sensorTable r.body s.tuner.settings.address with
  | none => answer .badValue protectSetBytes s
  | some sensors =>
    if allGroups.any fun g => sensorHeld (s.group g) (sensors.get g) then answer .busy protectSetBytes s
    else (storeProtection (clampSettings r.body) sensors s, clampStatus (settingsClamped r.body), protectSetBytes)

/-! ## PROTECT_READ (R112) -/

/-- A group record in the order of R93; the window start is given as the ms elapsed since it (R112). They have no bound in a
LATCHED group, so DESIGN CHOICE (log entry 15): they are sent in four bytes and stay at 4,294,967,295 once they reach it. -/
def groupBytes (now : Nat) (x : Group) : List Byte :=
  [groupStateCode x.state, groupCauseCode x.cause] ++ u8 x.faultCount
    ++ optional 4 (x.windowStart.map fun t => u32 (min (now - t) 4294967295))
    ++ s16 x.attenuation ++ s16 x.reported ++ [sensorByte x.sensor] ++ optional 1 (x.lastTemp.map s8) ++ u16 x.failRun
    ++ [flagCode x.sensorLost, flagCode x.coolSeen, flagCode x.needed]
    ++ u16 x.currentFaults ++ u16 x.thermalTrips ++ u16 x.pollFailures

def protectReadBytes (s : State) : List Byte :=
  settingsBytes s.protect.settings ++ [flagCode s.protect.zoneRequested, flagCode s.protect.zoneInForce]
    ++ listField 1 6 (s.protect.startQueue.map fun g => [number g])
    ++ (s.protect.groups.items.map (groupBytes s.now)).flatten

/-- PROTECT_READ (R112). -/
def onProtectRead (r : Request) (s : State) : Answer :=
  let stood := protectReadBytes s
  match boolOf (byteAt r.body 0) with
  | some true =>
    (s.onProtect fun p =>
      { p with groups := p.groups.mapIdx fun _ x => { x with currentFaults := 0, thermalTrips := 0, pollFailures := 0 } },
      .ok, fun _ => stood)
  | some false => answer .ok (fun _ => stood) s
  | none => answer .badValue (fun _ => stood) s

/-! ## ZONE_AMP (R113) -/

def zoneBytes (s : State) : List Byte := [flagCode s.protect.zoneRequested, flagCode s.protect.zoneInForce]

/-- ZONE_AMP (R113): the re-layout request is raised when the value differs from the one in force or the one it replaced.
DESIGN CHOICE (log entry 20): the value is checked before BUSY. -/
def onZoneAmp (r : Request) (s : State) : Answer :=
  match boolOf (byteAt r.body 0) with
  | none => answer .badValue zoneBytes s
  | some v =>
    if s.measure.run ≠ none then answer .busy zoneBytes s
    else
      let t := s.onProtect fun p => { p with zoneRequested := v }
      (if v ≠ s.protect.zoneInForce ∨ v ≠ s.protect.zoneRequested then relayoutRequest t else t, .ok, zoneBytes)

/-! ## FAULT_CLEAR (R114) -/

/-- A LATCHED group is cleared to OFF, and joins the start queue if it is needed in WAKING or RUNNING. -/
def clearLatched (g : Fin 6) (s : State) : State :=
  let t := setGroupState g .off (s.onGroup g fun x => { x with cause := .none, faultCount := 0, windowStart := none })
  if (t.group g).needed then
    match t.link.opState with
    | .waking => joinQueue g (joinStartList g false t)
    | .running => joinQueue g t
    | _ => t
  else t

/-- One group of a FAULT_CLEAR (R114). -/
def clearFault (g : Fin 6) (s : State) : State :=
  if (s.group g).state = .latched then clearLatched g s
  else s.onGroup g fun x => { x with faultCount := 0, windowStart := none, window := none }

/-- FAULT_CLEAR (R114); a mask with a bit above G6 is BAD_VALUE (R194). A group that is cleared and started at once has one
notice, with the state after the event (R110; log entry 12). DESIGN CHOICE (log entry 15): several groups of one mask join
the start queue in group order. -/
def onFaultClear (r : Request) (s : State) : Answer :=
  let m := byteAt r.body 0
  let show0 (t : State) : List Byte := t.protect.groups.items.map fun x => groupStateCode x.state
  if m = 0 ∨ 64 ≤ m.toNat then answer .badValue show0 s
  else (groupsEvent (fun t => (groupsOfMask m).foldl (fun u g => clearFault g u) t) s, .ok, show0)

end Sys2Proof.Machine
end

