-- ==== Sys2Proof/Machine/RequestsMeasure.lean ====
section
/-! DEFINITION. The requests of the measurement unit (R117, R131, R133 to R137): MEASURE, MEASURE_STOP, RESULT_READ,
PROFILE_READ, PROFILE_WRITE and MEASURE_SET. -/

namespace Sys2Proof.Machine

/-! ## MEASURE (R117) -/

/-- The fields of a MEASURE reply: mask, burst level, clamp flag (R117). DESIGN CHOICE (log entry 8): a refused request
shows the mask and the burst level of the run in progress, and zeros while there is none; its clamp flag is always clear,
also while the burst level of that run was clamped, since a run holds no clamp flag that R196 could show as it stands. -/
def measureBytes (clamped : Bool) (s : State) : List Byte :=
  match s.measure.run with
  | some r => u16 (maskOf r.mask) ++ s16 r.burst ++ [flagCode clamped]
  | none => [0, 0, 0, 0, 0]

/-- The run record of an accepted MEASURE. -/
def newRun (m : Measurement) (mask : List (Fin 12)) (reps : Nat) (burst : Int) (reference : Fin 12) (mode : ApplyMode)
    (tag : Byte) : Run where
  state := .preparing
  mask := mask
  todo := mask
  probe := none
  repetitions := reps
  burst := burst
  reference := reference
  apply := mode
  tag := tag
  latency := m.latency
  correction := m.correction
  outcome := .done

/-- An accepted MEASURE: the records of its slots become PENDING, and MAIN is taken (R117). DESIGN CHOICE (log entry 12): the
RUN_STATE notice of PREPARING stands before the ROUTE notice of the take-MAIN event. -/
def startRun (run : Run) (s : State) : State :=
  takeMain (runNotice (some .preparing) run ((setResults run.mask .pending s).onMeasure fun m => { m with run := some run }))

/-- MEASURE (R117). DESIGN CHOICE (log entry 20): the BAD_VALUE that R194 gives a mask with a bit above slot 12 is judged with
step 3, after NOT_READY and BUSY. DESIGN CHOICE (log entry 8): a refused MEASURE, BUSY, NOT_READY or BAD_VALUE, sends the clamp
flag clear, whatever the run in progress was started with (R196). -/
def onMeasure (r : Request) (s : State) : Answer :=
  let m := wordAt r.body 0
  let reps := (byteAt r.body 2).toNat
  let level := (wordAt r.body 3).toInt
  let mask := (slotsOfMask m).filter fun i => s.isPresent i
  if s.link.opState ≠ .running ∨ (s.port 9).lock ≠ .locked then answer .notReady (measureBytes false) s
  else if s.measure.run ≠ none then answer .busy (measureBytes false) s
  else
    match slotNumber (byteAt r.body 5), applyOf (byteAt r.body 6) with
    | some reference, some mode =>
      if reps < 1 ∨ 4 < reps ∨ straySlots m = true ∨ mask = [] then answer .badValue (measureBytes false) s
      else
        let burst := clampInt (-400) (-100) level
        (startRun (newRun s.measure mask reps burst reference mode r.tag) s, .started,
          measureBytes (decide (burst ≠ level)))
    | _, _ => answer .badValue (measureBytes false) s

/-- MEASURE_STOP (R131). -/
def onMeasureStop (_ : Request) (s : State) : Answer := (abortRun s, .ok, fun t => [runStateCode t.runState])

/-! ## RESULT_READ (R133, R197) -/

/-- The phase frame, at most the last frame of the phase (R115). -/
def phaseFrame (p : Probe) : Nat :=
  match p.phase with
  | .ambient => min p.frame 4799
  | .listen => min p.frame 3839

/-- The run record, 25 bytes. -/
def runBytes (run : Option Run) : List Byte :=
  match run with
  | none => [0] ++ List.replicate 24 0
  | some r =>
    [runStateCode (some r.state)] ++ u16 (maskOf r.mask)
      ++ optional 1 (r.probe.map fun p => [number p.slot])
      ++ optional 1 (r.probe.map fun p => u8 p.repetition)
      ++ optional 1 (r.probe.map fun p => [flagCode p.repeatUsed])
      ++ optional 1 (r.probe.map fun p => [phaseCode p.phase])
      ++ optional 2 (r.probe.map fun p => u16 (phaseFrame p))
      ++ u8 r.repetitions ++ s16 r.burst ++ [number r.reference, applyCode r.apply, r.tag,
          completionCode (runOutcome r.outcome)]
      ++ u16 r.latency ++ s16 r.correction

def measureSettings (s : State) : List Byte := u16 s.measure.latency ++ s16 s.measure.correction

def resultReadBytes (s : State) : List Byte :=
  runBytes s.measure.run ++ measureSettings s ++ (s.measure.results.items.map resultBytes).flatten

def onResultRead (_ : Request) (s : State) : Answer := answer .ok resultReadBytes s

/-! ## Profiles (R134, R135) -/

/-- PROFILE_READ (R134): the in-force layout, the active halves, and MAIN's re-layout due flag. -/
def onProfileRead (_ : Request) (s : State) : Answer :=
  answer .ok (fun t => profileBytes t.render.inForce (·.active) t.gain ++ [flagCode t.main.relayoutDue]) s

/-- The half of a slot in a profile; a value outside its range refuses the whole (R135). -/
def parseHalf (x : RawHalf) : Option Half :=
  match boolOf x.polarity with
  | some inv =>
    if x.distance.toNat ≤ 1800 ∧ -120 ≤ x.trim.toInt ∧ x.trim.toInt ≤ 120 then some ⟨x.distance.toNat, x.trim.toInt, inv⟩
    else none
  | none => none

def parseHalves (raw : Fin 12 → RawHalf) : Option (Table Half 12) :=
  let parsed := allSlots.filterMap fun i => parseHalf (raw i)
  if h : parsed.length = 12 then some ⟨parsed, h⟩ else none

/-- The twelve halves are written into the pending halves and all load marks are set (R135, R69). -/
def stageProfile (h : Table Half 12) (s : State) : State :=
  s.onGain fun g => { g with channels := g.channels.mapIdx fun i c => { c with pending := h.get i, marked := true } }

/-- PROFILE_WRITE (R135). -/
def onProfileWrite (r : Request) (s : State) : Answer :=
  let show0 (t : State) : List Byte := profileBytes t.render.requested (·.pending) t.gain
  if s.measure.run ≠ none then answer .busy show0 s
  else
    match parseLayout (rawSlotAt r.body 0) (byteAt r.body 48), parseHalves (rawHalfAt r.body 49) with
    | some (l, replaced), some h => (stageProfile h (storeLayout l s), clampStatus replaced, show0)
    | _, _ => answer .badValue show0 s

/-! ## MEASURE_SET (R137) -/

/-- MEASURE_SET (R137). -/
def onMeasureSet (r : Request) (s : State) : Answer :=
  let latency := (wordAt r.body 0).toNat
  let correction := (wordAt r.body 2).toInt
  let latency' := min latency 480
  let correction' := clampInt (-100) 100 correction
  (State.onMeasure s fun m => { m with latency := latency', correction := correction' },
    clampStatus (decide (latency' ≠ latency) || decide (correction' ≠ correction)), measureSettings)

end Sys2Proof.Machine
end

