-- ==== Sys2Proof/Machine/RequestsTuner.lean ====
section
/-! DEFINITION. The requests of the tuner unit (R152 to R162): TUNER_SET, TUNE, SEEK, SCAN, TUNER_STOP, TUNER_READ,
LIST_READ, the three preset requests and AGC_SET. -/

namespace Sys2Proof.Machine

/-! ## TUNER_SET (R152) -/

def tunerSettingsBytes (t : Tuner) : List Byte :=
  u8 t.settings.fmStep ++ u8 t.settings.amStep ++ u8 t.settings.fmLevel ++ u8 t.settings.fmQuality ++ u8 t.settings.amLevel
    ++ u8 t.settings.amQuality ++ [t.settings.address.setWidth 8]

def tunerSetBytes (s : State) : List Byte :=
  tunerSettingsBytes s.tuner ++ [bandCode s.tuner.band] ++ u32 s.tuner.frequency

/-- A step change of a band leaves a preset only if its frequency is a channel of the new raster (R140, R152). -/
def keepPreset (b : Band) (step : Nat) (p : Option Preset) : Option Preset :=
  p.filter fun x => decide (x.band ≠ b) || isChannel b step x.frequency

/-- A pending TUNE of the band moves to the nearest channel of the new raster (R152). -/
def movePending (b : Band) (step : Nat) (o : Option TunerOp) : Option TunerOp :=
  match o with
  | some (.tune b' f m) => some (.tune b' (if b' = b then nearestChannel b step f else f) m)
  | other => other

/-- The step of a band changes (R152); the record's frequency moves if it is the record's band. -/
def changeStep (b : Band) (step : Nat) (t : Tuner) : Tuner :=
  if t.settings.step b = step then t
  else
    { (t.setList b []) with
      settings := match b with
        | .fm => { t.settings with fmStep := step }
        | .am => { t.settings with amStep := step }
      presets := t.presets.mapIdx fun _ p => keepPreset b step p
      op := movePending b step t.op
      frequency := if t.band = b then nearestChannel b step t.frequency else t.frequency }

/-- The settings of a TUNER_SET are stored (R152). -/
def storeTuner (x : TunerSettings) (t : Tuner) : Tuner :=
  { changeStep .am x.amStep (changeStep .fm x.fmStep t) with settings := x }

/-- The settings of the body after the clamps. -/
def clampTuner (b : List Byte) : TunerSettings where
  fmStep := (byteAt b 0).toNat
  amStep := (byteAt b 1).toNat
  fmLevel := min (byteAt b 2).toNat 127
  fmQuality := min (byteAt b 3).toNat 15
  amLevel := min (byteAt b 4).toNat 127
  amQuality := min (byteAt b 5).toNat 15
  address := (byteAt b 6).setWidth 7

/-- Whether a clamp changed a threshold. -/
def tunerClamped (b : List Byte) : Bool :=
  decide (127 < (byteAt b 2).toNat) || decide (15 < (byteAt b 3).toNat) || decide (127 < (byteAt b 4).toNat)
    || decide (15 < (byteAt b 5).toNat)

/-- Steps 1 and 2 of R152. -/
def tunerSetValid (b : List Byte) (s : State) : Bool :=
  let fm := (byteAt b 0).toNat
  let am := (byteAt b 1).toNat
  (decide (fm = 50) || decide (fm = 100) || decide (fm = 200)) && (decide (am = 9) || decide (am = 10))
    && decide ((byteAt b 6).toNat ≤ 127)
    && s.protect.groups.items.all fun g => decide (g.sensor ≠ some ((byteAt b 6).setWidth 7))

/-- Whether the tuner is on its way to or through an operation. -/
def tunerBusy (t : Tuner) : Bool :=
  decide (t.state = .hushing) || decide (t.state = .tuning) || decide (t.state = .seeking) || decide (t.state = .scanning)

/-- TUNER_SET (R152): in LISTENING a frequency that moved is tuned through a hush. -/
def onTunerSet (r : Request) (s : State) : Answer :=
  let x := clampTuner r.body
  if tunerSetValid r.body s then
    if tunerBusy s.tuner = true ∧ (x.step s.tuner.band ≠ s.tuner.step ∨ x.address ≠ s.tuner.settings.address) then
      answer .busy tunerSetBytes s
    else
      let moved := (storeTuner x s.tuner).frequency
      if s.tuner.state = .listening ∧ moved ≠ s.tuner.frequency then
        (enterHushing (.tune s.tuner.band moved s.tuner.mono) (s.onTuner (storeTuner x)),
          clampStatus (tunerClamped r.body), tunerSetBytes)
      else (s.onTuner (storeTuner x), clampStatus (tunerClamped r.body), tunerSetBytes)
  else answer .badValue tunerSetBytes s

/-! ## TUNE (R153) -/

/-- A scan is running or pending. -/
def scanHeld (t : Tuner) : Bool := decide (t.state = .scanning) || (decide (t.state = .hushing) && decide (t.op = some .scan))

/-- A tune that is accepted, by the state of the tuner (R153). -/
def tuneNow (b : Band) (f : Nat) (mono : Bool) (s : State) : State :=
  match s.tuner.state with
  | .listening =>
    if s.tuner.band = b ∧ s.tuner.frequency = f ∧ s.tuner.mono = mono then s else enterHushing (.tune b f mono) s
  | .hushing => (abortOp s).onTuner fun t => { t with op := some (.tune b f mono) }
  | .tuning => serve (enterTuning b f mono s)
  | .seeking => serve (enterTuning b f mono (abortOp s))
  | .off | .scanning => s

/-- A band and a frequency taken by R138: the channel of the raster, with whether it was rounded. -/
def takeFrequency (t : Tuner) (b : Band) (f : Nat) : Option (Nat × Bool) :=
  let step := t.settings.step b
  if inBand b step f then some (nearestChannel b step f, decide (nearestChannel b step f ≠ f)) else none

/-- The forced-mono flag is clear on AM. -/
def monoOn (b : Band) (mono : Bool) : Bool := mono && decide (b = .fm)

/-- The band and frequency of the record, with the tuner state. -/
def tuneBytes (s : State) : List Byte :=
  [bandCode s.tuner.band] ++ u32 s.tuner.frequency ++ [tunerStateCode s.tuner.state]

/-- TUNE (R153). -/
def onTune (r : Request) (s : State) : Answer :=
  if s.tuner.state = .off then answer .notReady tuneBytes s
  else
    match bandOf (byteAt r.body 0), boolOf (byteAt r.body 5) with
    | some b, some mono =>
      match takeFrequency s.tuner b (longAt r.body 1).toNat with
      | none => answer .badValue tuneBytes s
      | some (f, rounded) =>
        if scanHeld s.tuner then answer .busy tuneBytes s
        else
          (tuneNow b f (monoOn b mono) s, clampStatus rounded,
            fun t => [bandCode b] ++ u32 f ++ [tunerStateCode t.tuner.state])
    | _, _ => answer .badValue tuneBytes s

/-! ## SEEK, SCAN and TUNER_STOP (R154 to R156) -/

/-- A seek or a scan is running or pending. -/
def searchHeld (t : Tuner) : Bool :=
  decide (t.state = .seeking) || decide (t.state = .scanning)
    || (decide (t.state = .hushing) && match t.op with
      | some (.seek _) | some .scan => true
      | _ => false)

/-- A search that is accepted, by the state of the tuner (R154, R155): `begun` is its beginning from TUNING. -/
def searchNow (tag : Byte) (o : TunerOp) (begun : State → Called) (s : State) : State :=
  let t := s.onTuner fun t => { t with opTag := some tag }
  match s.tuner.state with
  | .listening => enterHushing o t
  | .hushing => t.onTuner fun t => { t with op := some o }
  | .tuning => serve (begun t)
  | _ => s

/-- SEEK (R154); direction 1 is UP. DESIGN CHOICE (log entry 20): NOT_READY is judged first, the direction after it, and BUSY
last. DESIGN CHOICE (log entry 8): a refused SEEK shows the direction byte of the refused request, also while another seek runs. -/
def onSeek (r : Request) (s : State) : Answer :=
  let stood := [byteAt r.body 0, bandCode s.tuner.band] ++ u32 s.tuner.frequency
  if s.tuner.state = .off then answer .notReady (fun _ => stood) s
  else
    match boolOf (byteAt r.body 0) with
    | none => answer .badValue (fun _ => stood) s
    | some up =>
      if searchHeld s.tuner then answer .busy (fun _ => stood) s
      else (searchNow r.tag (.seek up) (enterSeeking up) s, .started, fun _ => stood)

/-- SCAN (R155). -/
def onScan (r : Request) (s : State) : Answer :=
  let stood := [bandCode s.tuner.band] ++ u8 (s.tuner.list s.tuner.band).length
  if s.tuner.state = .off then answer .notReady (fun _ => stood) s
  else if searchHeld s.tuner then answer .busy (fun _ => stood) s
  else (searchNow r.tag .scan enterScanning s, .started, fun _ => stood)

/-- What TUNER_STOP stops (R156). -/
def stopTuner (s : State) : State :=
  match s.tuner.state with
  | .seeking => serve (enterTuning s.tuner.band s.tuner.frequency s.tuner.mono (abortOp s))
  | .scanning =>
    match s.tuner.scan with
    | some w => serve (enterTuning s.tuner.band w.returnFrequency w.returnMono (abortOp s))
    | none => s
  | .hushing => if searchHeld s.tuner then stateNotice (enterListening (abortOp s)) else s
  | _ => s

/-- TUNER_STOP (R156). -/
def onTunerStop (_ : Request) (s : State) : Answer :=
  let show0 (t : State) : List Byte := [tunerStateCode t.tuner.state]
  if s.tuner.state = .off then answer .notReady show0 s else (stopTuner s, .ok, show0)

/-! ## Reads (R157, R158) -/

/-- A pending operation, 8 bytes. DESIGN CHOICE (log entry 8), since R194 gives it no codes and R197 no layout: its code (TUNE 0,
SEEK 1, SCAN 2), then band, frequency and mono flag of a TUNE, then the direction of a SEEK, with zeros in the fields that an
operation has not. -/
def opBytes (o : TunerOp) : List Byte :=
  match o with
  | .tune b f m => [0, bandCode b] ++ u32 f ++ [flagCode m, 0]
  | .seek up => [1, 0, 0, 0, 0, 0, 0, flagCode up]
  | .scan => [2, 0, 0, 0, 0, 0, 0, 0]

/-- The tuner record in the order of R139, and the AGC duty (R142). DESIGN CHOICE (log entry 8): the thresholds, which R139 lists
in one row for both bands, are sent as FM level, FM quality, AM level and AM quality, the candidate as a station entry, the
fields of a seek or a scan each as an optional field of its own, and the duty A / 1,024 as its numerator A in a u16, 0 in OFF. -/
def tunerReadBytes (s : State) : List Byte :=
  let t := s.tuner
  [tunerStateCode t.state] ++ optional 8 (t.op.map opBytes) ++ [bandCode t.band] ++ u32 t.frequency ++ [flagCode t.mono]
    ++ u8 t.level ++ u8 t.quality ++ [flagCode t.stereo] ++ u8 t.settings.fmStep ++ u8 t.settings.amStep
    ++ u8 t.settings.fmLevel ++ u8 t.settings.fmQuality ++ u8 t.settings.amLevel ++ u8 t.settings.amQuality
    ++ [agcCode t.agcMode] ++ u16 t.agcA ++ u8 t.agcTarget ++ [t.settings.address.setWidth 8] ++ u8 t.failRun
    ++ optional 1 (t.seek.map fun x => [flagCode x.1]) ++ optional 4 (t.seek.map fun x => u32 x.2)
    ++ optional 4 (t.scan.map fun w => u32 w.returnFrequency) ++ optional 1 (t.scan.map fun w => [flagCode w.returnMono])
    ++ optional 1 (t.scan.map fun w => u8 w.list.length)
    ++ optional 4 ((t.scan.bind (·.candidate)).map (stationBytes (rasterLow t.band t.step) t.step))
    ++ optional 1 (t.scan.map fun w => u8 w.dropped) ++ optional 1 (t.scan.map fun w => [flagCode w.full])
    ++ u16 (if t.state = .off then 0 else t.agcA)

def onTunerRead (_ : Request) (s : State) : Answer := answer .ok tunerReadBytes s

/-- LIST_READ (R158, R197): an unknown band has no step and no raster, and its list is sent empty (log entry 2). -/
def onListRead (r : Request) (s : State) : Answer :=
  match bandOf (byteAt r.body 0) with
  | none => ({ s with free := s.free + 6 }, .badValue, fun _ => [byteAt r.body 0] ++ freeBytes 6 s.free ++ [0])
  | some b =>
    answer .ok (fun t =>
      let step := t.tuner.settings.step b
      let lowest := rasterLow b step
      [bandCode b] ++ u16 step ++ u32 lowest ++ u8 (t.tuner.list b).length
        ++ ((t.tuner.list b).map (stationBytes lowest step)).flatten) s

/-! ## Presets (R159 to R161) -/

/-- The preset that a byte numbers. -/
def presetOf (b : Byte) : Option (Fin 30) := numberIndex 30 b.toNat

def setPreset (i : Fin 30) (p : Option Preset) (s : State) : State :=
  s.onTuner fun t => { t with presets := t.presets.set i p }

/-- A preset as it stands. DESIGN CHOICE (log entry 8): one presence byte serves its band, frequency and forced mono together. -/
def presetBytes (i : Fin 30) (s : State) : List Byte :=
  number i :: optional 6 ((s.tuner.presets.get i).map fun p => [bandCode p.band] ++ u32 p.frequency ++ [flagCode p.mono])

/-- PRESET_STORE with the given values (R159). -/
def storeGiven (i : Fin 30) (b : List Byte) (s : State) : Answer :=
  match bandOf (byteAt b 2), boolOf (byteAt b 7) with
  | some band, some mono =>
    match takeFrequency s.tuner band (longAt b 3).toNat with
    | none => answer .badValue (presetBytes i) s
    | some (f, rounded) =>
      (setPreset i (some ⟨band, f, monoOn band mono⟩) s, clampStatus rounded, presetBytes i)
  | _, _ => answer .badValue (presetBytes i) s

/-- PRESET_STORE (R159). -/
def onPresetStore (r : Request) (s : State) : Answer :=
  match presetOf (byteAt r.body 0) with
  | none => notFound s
  | some i =>
    match boolOf (byteAt r.body 1) with
    | some true => storeGiven i r.body s
    | some false =>
      if s.tuner.state = .seeking ∨ s.tuner.state = .scanning then answer .busy (presetBytes i) s
      else (setPreset i (some ⟨s.tuner.band, s.tuner.frequency, s.tuner.mono⟩) s, .ok, presetBytes i)
    | none => answer .badValue (presetBytes i) s

/-- PRESET_RECALL (R160): in OFF the record takes the preset, otherwise it is a TUNE. -/
def onPresetRecall (r : Request) (s : State) : Answer :=
  match presetOf (byteAt r.body 0) with
  | none => notFound s
  | some i =>
    match s.tuner.presets.get i with
    | none => answer .empty (fun _ => []) s
    | some p =>
      let show0 (t : State) : List Byte :=
        [number i, bandCode p.band] ++ u32 p.frequency ++ [tunerStateCode t.tuner.state]
      if s.tuner.state = .off then
        (s.onTuner fun t => { t with band := p.band, frequency := p.frequency, mono := p.mono }, .ok, show0)
      else if scanHeld s.tuner then answer .busy show0 s
      else (tuneNow p.band p.frequency p.mono s, .ok, show0)

/-- PRESET_CLEAR (R161). -/
def onPresetClear (r : Request) (s : State) : Answer :=
  match presetOf (byteAt r.body 0) with
  | none => notFound s
  | some i => (setPreset i none s, .ok, fun _ => [])

/-! ## AGC_SET (R162) -/

def agcBytes (s : State) : List Byte := [agcCode s.tuner.agcMode] ++ u8 s.tuner.agcTarget ++ u16 s.tuner.agcA

/-- AGC_SET (R162). DESIGN CHOICE (log entry 20): NOT_READY is judged before the mode. -/
def onAgcSet (r : Request) (s : State) : Answer :=
  let target := (byteAt r.body 1).toNat
  let manual := (wordAt r.body 2).toNat
  let target' := clampNat 20 90 target
  let manual' := min manual 1023
  if s.tuner.state = .off then answer .notReady agcBytes s
  else
    match agcOf (byteAt r.body 0) with
    | none => answer .badValue agcBytes s
    | some m =>
      (s.onTuner fun t =>
        { t with agcMode := m, agcTarget := target', agcA := if m = .manual then manual' else t.agcA },
        clampStatus (decide (target' ≠ target) || decide (manual' ≠ manual)), agcBytes)

end Sys2Proof.Machine
end

