-- ==== Sys2Proof/Machine/RequestsAux.lean ====
section
/-! DEFINITION. The requests of the auxiliary bus (R174 to R176): RELAY, AUX_READ and AUX_SET. -/

namespace Sys2Proof.Machine

/-! ## RELAY (R174) -/

/-- The relay service posts a transaction; in BUS_DOWN it fails at its post (R172). -/
def postRelay (tag : Byte) (t : Transaction) (s : State) : State :=
  let held := s.onBus fun b => { b with relayTag := some tag, relayAddress := t.address }
  if s.bus.state = .busDown then relayReturn .busFault held else busPost .relay t held

/-- RELAY (R174). DESIGN CHOICE (log entry 8): the bus state of the STARTED reply is that before the post, whose grant may make
the bus ACTIVE at the same event, and a refused RELAY shows the address and the counts of the refused request. -/
def onRelay (r : Request) (s : State) : Answer :=
  let address := byteAt r.body 0
  let reads := byteAt r.body 2
  let writes := byteAt r.body 3
  let stood := [address, writes, reads, busStateCode s.bus.state]
  match boolOf (byteAt r.body 1) with
  | some hold =>
    if 127 < address.toNat ∨ 32 < writes.toNat ∨ 32 < reads.toNat then answer .badValue (fun _ => stood) s
    else if s.bus.relayTag ≠ none then answer .busy (fun _ => stood) s
    else if address.setWidth 7 = s.tuner.settings.address ∧ tunerBusy s.tuner = true then answer .busy (fun _ => stood) s
    else (postRelay r.tag ⟨address.setWidth 7, r.body.drop 4, reads.toNat, hold⟩ s, .started, fun _ => stood)
  | none => answer .badValue (fun _ => stood) s

/-! ## AUX_READ and AUX_SET (R175, R176) -/

/-- A slot: empty 0, waiting 1 or in progress 2, and its address when not empty. DESIGN CHOICE (log entry 8): the three codes,
which R194 does not give. -/
def slotBytes (b : Bus) (q : Requester) : List Byte :=
  (match slotOf b q with
    | none => [0]
    | some _ => if b.inProgress = some q then [2] else [1])
    ++ optional 1 ((slotOf b q).map fun t => [t.address.setWidth 8])

/-- The reply body of AUX_READ (R175). DESIGN CHOICE (log entry 8): the speed is sent as its request code, 0 for 100 kHz and 1
for 400 kHz, in BUS_DOWN the ms left are absent while the recovery of a retry runs, since the timer has expired, and the slots
are sent in the order TUNER, PROTECT, RELAY. -/
def auxBytes (s : State) : List Byte :=
  let b := s.bus
  [busStateCode b.state, flagCode b.fast, requesterCode b.last] ++ optional 1 (b.inProgress.map fun q => [requesterCode q])
    ++ slotBytes b .tuner ++ slotBytes b .protect ++ slotBytes b .relay
    ++ optional 1 (b.hold.map fun t => u8 (t - s.now)) ++ optional 2 (b.retry.map fun t => u16 (t - s.now))
    ++ u16 b.nacks ++ u16 b.stucks ++ u16 b.holdTimeouts

/-- AUX_READ (R175). -/
def onAuxRead (r : Request) (s : State) : Answer :=
  let stood := auxBytes s
  match boolOf (byteAt r.body 0) with
  | some true => (s.onBus fun b => { b with nacks := 0, stucks := 0, holdTimeouts := 0 }, .ok, fun _ => stood)
  | some false => answer .ok (fun _ => stood) s
  | none => answer .badValue (fun _ => stood) s

/-- AUX_SET (R176); the reply sends the speed as its request code (DESIGN CHOICE, log entry 8). -/
def onAuxSet (r : Request) (s : State) : Answer :=
  let show0 (t : State) : List Byte := [flagCode t.bus.fast]
  match boolOf (byteAt r.body 0) with
  | some fast => (s.onBus fun b => { b with fast := fast }, .ok, show0)
  | none => answer .badValue show0 s

end Sys2Proof.Machine
end

