-- ==== Sys2Proof/Machine/RequestsLink.lean ====
section
/-! DEFINITION. The requests of the link unit (R187 to R193): IDENT, PART_READ, WAKE, STANDBY, RESTART, NOTICE_MASK and
LINK_STATS. The layouts of replies that R197 does not give follow R196 (log entry 8). -/

namespace Sys2Proof.Machine

/-- IDENT (R190, R196). -/
def onIdent (_ : Request) (s : State) : Answer :=
  answer .ok (fun _ =>
    u16 0x4C4B ++ [0x49, 0x4D, 0x42, 0x41, 0x52, 0x4F] ++ u16 1260 ++ [3, 10, 12, 12, 6, 30]) s

/-- The fields of PART_READ (R191). The reply places count this reply, which is not queued yet. DESIGN CHOICE (log entry 13): the
four flags show the operations in flight; one whose completion is queued and not yet sent shows no flag, though its notice
occupies a place (R182). DESIGN CHOICE (log entry 8): the four are one byte each, and the link rate is a u32 in bit/s. -/
def partBytes (s : State) : List Byte :=
  [opStateCode s.link.opState, State.causeCode s.link.cause]
    ++ u32 (if s.link.rateHigh then 921600 else 115200)
    ++ u16 (min ((s.now - s.link.resetAt) / 1000) 65535)
    ++ optional 1 (s.link.quietDeadline.map fun t => u8 (t - s.now))
    ++ u8 s.link.requests.length
    ++ u8 (placesUsed .reply s.link.outbound + 1) ++ u8 (completionPlaces s) ++ u8 (placesUsed .event s.link.outbound)
    ++ [flagCode s.bus.relayTag.isSome, flagCode s.tuner.opTag.isSome, flagCode s.measure.run.isSome,
        flagCode (s.link.wakeTag.isSome || s.link.standbyTag.isSome)]
    ++ u16 s.link.lost ++ [s.link.mask.setWidth 8]

def onPartRead (_ : Request) (s : State) : Answer := answer .ok (fun _ => partBytes s) s

/-- The operating state after the request. -/
def stateBytes (s : State) : List Byte := [opStateCode s.link.opState]

/-- WAKE (R187). -/
def onWake (r : Request) (s : State) : Answer :=
  match s.link.opState with
  | .standby => (enterWaking r.tag s, .started, stateBytes)
  | .running => answer .ok stateBytes s
  | .waking | .quieting => answer .busy stateBytes s

/-- STANDBY (R188). -/
def onStandby (r : Request) (s : State) : Answer :=
  match s.link.opState with
  | .waking | .running => (enterQuieting r.tag s, .started, stateBytes)
  | .standby => answer .ok stateBytes s
  | .quieting => answer .busy stateBytes s

/-- RESTART (R189): from its reply on nothing is dispatched. -/
def onRestart (_ : Request) (s : State) : Answer := (s.onLink fun l => { l with restarting := true }, .ok, fun _ => [])

/-- NOTICE_MASK (R192). -/
def onNoticeMask (r : Request) (s : State) : Answer :=
  let m := byteAt r.body 0
  let show0 (t : State) : List Byte := [t.link.mask.setWidth 8]
  if m.getLsbD 7 then answer .badValue show0 s else (s.onLink fun l => { l with mask := m.setWidth 7 }, .ok, show0)

def counterBytes (c : LinkCounters) : List Byte :=
  u16 c.taken ++ u16 c.stray ++ u16 c.rejLength ++ u16 c.rejGap ++ u16 c.rejCheck ++ u16 c.rejTag ++ u16 c.rejFull
    ++ u16 c.repliesSent ++ u16 c.noticesSent ++ u16 c.dropped

/-- LINK_STATS (R193). -/
def onLinkStats (r : Request) (s : State) : Answer :=
  let stood := counterBytes s.link.counters
  match boolOf (byteAt r.body 0) with
  | some true => (s.onLink fun l => { l with counters := State.zeroCounters }, .ok, fun _ => stood)
  | some false => answer .ok (fun _ => stood) s
  | none => answer .badValue (fun _ => stood) s

end Sys2Proof.Machine
end

