-- ==== Sys2Proof/Machine/Catalogue.lean ====
section
/-! DEFINITION. The kind catalogue (R195): the kind, the body length, the long mark and the handler of each request. -/

namespace Sys2Proof.Machine

/-- A row of the catalogue. The length may depend on the body (RELAY). -/
structure CatalogueRow where
  kind : Byte
  length : List Byte → Nat
  long : Bool
  handler : Request → State → Answer

/-- A short kind of fixed length, and a long one. -/
def short (kind : Byte) (n : Nat) (h : Request → State → Answer) : CatalogueRow := ⟨kind, fun _ => n, false, h⟩

def long (kind : Byte) (n : Nat) (h : Request → State → Answer) : CatalogueRow := ⟨kind, fun _ => n, true, h⟩

/-- The catalogue of R195, in its order. -/
def catalogue : List CatalogueRow :=
  [short 0x01 0 onIdent, short 0x02 0 onPartRead, long 0x03 0 onWake, long 0x04 0 onStandby, short 0x05 0 onRestart,
   short 0x06 1 onNoticeMask, short 0x07 1 onLinkStats,
   short 0x10 2 onPortSet, short 0x11 2 onPortRead, short 0x12 3 onAdcTrim,
   short 0x18 20 onSourceSet, short 0x19 1 onSourceRead, short 0x1A 2 onSelect, short 0x1B 1 onRouteRead,
   short 0x20 49 onLayoutSet, short 0x21 1 onLayoutRead, short 0x22 1 onRenderMode, short 0x23 1 onSteerSet,
   short 0x28 3 onVolume, short 0x29 2 onVolumeStep, short 0x2A 2 onMute, short 0x2B 7 onChannelSet,
   short 0x2C 1 onChannelRead, short 0x2D 2 onLoad, short 0x2E 2 onRampSet, short 0x2F 2 onLipsync,
   short 0x30 2 onEncoderSet,
   short 0x38 13 onProtectSet, short 0x39 1 onProtectRead, short 0x3A 1 onZoneAmp, short 0x3B 1 onFaultClear,
   long 0x40 7 onMeasure, short 0x41 0 onMeasureStop, short 0x42 0 onResultRead, short 0x43 0 onProfileRead,
   short 0x44 109 onProfileWrite, short 0x45 4 onMeasureSet,
   short 0x48 7 onTunerSet, short 0x49 6 onTune, long 0x4A 1 onSeek, long 0x4B 0 onScan, short 0x4C 0 onTunerStop,
   short 0x4D 0 onTunerRead, short 0x4E 1 onListRead, short 0x4F 8 onPresetStore, short 0x50 1 onPresetRecall,
   short 0x51 1 onPresetClear, short 0x52 4 onAgcSet,
   ⟨0x58, fun b => 4 + (byteAt b 3).toNat, true, onRelay⟩,
   short 0x59 1 onAuxRead, short 0x5A 1 onAuxSet]

/-- The row of a kind, if it names a request. -/
def rowOf (kind : Byte) : Option CatalogueRow := catalogue.find? fun r => r.kind == kind

/-- Whether a kind is long (R180). -/
def isLong (kind : Byte) : Bool := ((rowOf kind).map (·.long)).getD false

end Sys2Proof.Machine
end

