-- ==== Sys2Proof/Machine/Link.lean ====
section
/-! DEFINITION. The link unit (chapter 9): dispatch of requests and their replies, the request queue, the receive assembler
and its rejections, and the sending of frames. -/

namespace Sys2Proof.Machine

/-! ## Dispatch (R180) -/

/-- The reply frame is queued into its place: after the frames that were there, before those that the handling created. -/
def insertReply (before : Nat) (f : Frame) (s : State) : State :=
  s.onLink fun l => { l with outbound := l.outbound.take before ++ f :: l.outbound.drop before }

/-- A request is answered by its owner at this event. The hush is judged before the reply is formed; power-up done and
routes-silent follow it (log entry 8). -/
def serveRequest (h : Request → State → Answer) (r : Request) (s : State) : State :=
  let a := h r s
  let t := hushCheck a.1
  settle (insertReply s.link.outbound.length ⟨.reply, r.kind + 0x80, r.tag, replyBody a.2.1 (a.2.2 t)⟩ t)

/-- A request taken from the queue is checked against the catalogue and answered (R180, R195). -/
def takeRequest (r : Request) (s : State) : State :=
  match rowOf r.kind with
  | none => s.enqueue ⟨.reply, 0xFF, r.tag, [statusCode .badKind, r.kind]⟩
  | some row =>
    if r.body.length = row.length r.body then serveRequest row.handler r s
    else s.enqueue ⟨.reply, r.kind + 0x80, r.tag, [statusCode .badLength]⟩

/-- Whether the oldest entry can be dispatched: a reply place is free, and a completion place for a long kind (R180). From a
RESTART's reply on nothing is dispatched (R189). -/
def canDispatch (r : Request) (s : State) : Bool :=
  !s.link.restarting && decide (placesUsed .reply s.link.outbound < 8)
    && (!isLong r.kind || decide (completionPlaces s < 4))

/-- The dispatch of at most `n` entries of the request queue, oldest first, while places allow. -/
def dispatch : Nat → State → State
  | 0, s => s
  | n + 1, s =>
    match s.link.requests with
    | [] => s
    | r :: rest =>
      if canDispatch r s then
        dispatch n <| takeRequest r <| s.onLink fun l =>
          { l with requests := rest, counters := { l.counters with taken := count16 l.counters.taken } }
      else s

/-- The dispatch of all entries that places allow. -/
def dispatchAll (s : State) : State := dispatch s.link.requests.length s

/-! ## Rejections (R178) -/

def countReject (why : Reject) (c : LinkCounters) : LinkCounters :=
  match why with
  | .length => { c with rejLength := count16 c.rejLength }
  | .gap => { c with rejGap := count16 c.rejGap }
  | .check => { c with rejCheck := count16 c.rejCheck }
  | .tag => { c with rejTag := count16 c.rejTag }
  | .queueFull => { c with rejFull := count16 c.rejFull }

/-- A frame is rejected: its counter and the FRAME_REJECTED notice with the kind and the tag as far as they are known. -/
def rejectFrame (why : Reject) (kind tag : Option Byte) (s : State) : State :=
  emit .link ([0, rejectCode why] ++ optional 1 (kind.map fun k => [k]) ++ optional 1 (tag.map fun t => [t]))
    (s.onLink fun l => { l with counters := countReject why l.counters })

/-! ## The request queue (R179) -/

/-- A well-formed request joins the queue, or finds it full; then the queue is dispatched. -/
def joinRequests (r : Request) (s : State) : State :=
  if s.link.requests.length < 8 then dispatchAll (s.onLink fun l => { l with requests := l.requests ++ [r] })
  else rejectFrame .queueFull (some r.kind) (some r.tag) s

/-- A whole frame with a correct check byte has been received (R177, R178). -/
def requestArrives (r : Request) (s : State) : State :=
  if 240 < r.body.length then rejectFrame .length none none s
  else if r.tag = 0 then rejectFrame .tag (some r.kind) (some 0) s
  else joinRequests r s

/-! ## The receive assembler (R177) -/

/-- The assembler enters a phase; outside HUNTING the gap timer starts anew. -/
def enterPhase (a : Assembler) (s : State) : State :=
  s.onLink fun l => { l with assembler := a, gapDeadline := if a = .hunting then none else some (s.now + 10) }

def strayByte (s : State) : State :=
  s.onLink fun l => { l with counters := { l.counters with stray := count16 l.counters.stray } }

/-- The sum of a frame with its check byte (R177). -/
def frameSum (len : Nat) (kind tag : Byte) (body : List Byte) (check : Byte) : Byte :=
  (BitVec.ofNat 8 len :: kind :: tag :: body).foldl (· + ·) 0 + check

/-- The check byte of a frame has been taken. -/
def frameEnds (len : Nat) (kind tag : Byte) (body : List Byte) (check : Byte) (s : State) : State :=
  let t := enterPhase .hunting s
  if frameSum len kind tag body check = 0 then requestArrives ⟨kind, tag, body⟩ t
  else rejectFrame .check (some kind) (some tag) t

/-- The assembler takes one byte. -/
def takeByte (b : Byte) (s : State) : State :=
  match s.link.assembler with
  | .hunting => if b = 0xC5 then enterPhase .length s else strayByte s
  | .length =>
    if b.toNat ≤ 240 then enterPhase (.kind b.toNat) s else rejectFrame .length none none (enterPhase .hunting s)
  | .kind len => enterPhase (.tag len b) s
  | .tag len kind => enterPhase (.bodyCheck len kind b []) s
  | .bodyCheck len kind tag body =>
    if body.length < len then enterPhase (.bodyCheck len kind tag (body ++ [b])) s
    else frameEnds len kind tag body b s

/-- A character: a missing stop bit is a stray byte in HUNTING, and inside a frame it is not taken. -/
def takeCharacter (s : State) (c : Option Byte) : State :=
  match c with
  | some b => takeByte b s
  | none => if s.link.assembler = .hunting then strayByte s else s

/-- The characters received, in order. -/
def receive (chars : List (Option Byte)) (s : State) : State := chars.foldl takeCharacter s

/-- The kind and the tag that the assembler has taken. -/
def Assembler.kindTag : Assembler → Option Byte × Option Byte
  | .tag _ k => (some k, none)
  | .bodyCheck _ k t _ => (some k, some t)
  | _ => (none, none)

/-- The gap timer has expired inside a frame (R178). -/
def gapExpired (s : State) : State :=
  rejectFrame .gap s.link.assembler.kindTag.1 s.link.assembler.kindTag.2 (enterPhase .hunting s)

/-! ## Sending (R181, R183, R189) -/

/-- The reply of a RESTART that was taken. -/
def isRestartReply (f : Frame) : Bool := decide (f.space = .reply) && f.kind == 0x85 && f.body == [0x00]

/-- The counter of a sent frame (R193). -/
def countSent (sp : Space) (c : LinkCounters) : LinkCounters :=
  match sp with
  | .reply => { c with repliesSent := count16 c.repliesSent }
  | .completion | .event => { c with noticesSent := count16 c.noticesSent }

/-- A freed notice place takes NOTICES_LOST when notices were lost, whatever the mask (R183). -/
def reportLost (s : State) : State :=
  if s.link.lost = 0 then s
  else (s.enqueue ⟨.event, NoticeClass.link.kind, 0, 1 :: u16 s.link.lost⟩).onLink fun l => { l with lost := 0 }

/-- The frame at the head of the outbound queue has left; its place is free and dispatch goes on. -/
def placeFreed (f : Frame) (rest : List Frame) (s : State) : State :=
  let t := s.onLink fun l => { l with outbound := rest, counters := countSent f.space l.counters }
  dispatchAll (if f.space = .event then reportLost t else t)

/-- A frame has left on the transmit line, with the check byte that makes its sum 0 (R181). -/
def transmit (f : Frame) (s : State) : State := s.onPins fun p => { p with sent := frameBytes f.kind f.tag f.body }

/-- The check byte of the frame being sent has gone. After the RESTART reply every block takes its soft-reset values
(R189). -/
def sentFrame (s : State) : State :=
  match s.link.outbound with
  | [] => s
  | f :: rest =>
    if s.link.restarting = true ∧ isRestartReply f = true then softReset s.pins.linkRateHigh (transmit f s)
    else placeFreed f rest (transmit f s)

end Sys2Proof.Machine
end

