-- ==== Sys2Proof/Machine/Commands.lean ====
section
/-! DEFINITION. The meanings of the request commands: each is the arrival of the well-formed frame that carries it (R177,
R179), with the body fields in the order of R195; its handler stands in the catalogue. -/

namespace Sys2Proof.Machine

/-- BAD_KIND (R180, R195): a request of any kind. -/
def execBadKind (tag kind : Byte) (body : List Byte) (s : State) : Host.Outcome State Fault Refusal :=
  .next (requestArrives ⟨kind, tag, body⟩ s)

/-- IDENT (R190). -/
def execIdent (tag : Byte) (s : State) : Host.Outcome State Fault Refusal :=
  .next (requestArrives ⟨0x01, tag, []⟩ s)

/-- PART_READ (R191). -/
def execPartRead (tag : Byte) (s : State) : Host.Outcome State Fault Refusal :=
  .next (requestArrives ⟨0x02, tag, []⟩ s)

/-- WAKE (R187). -/
def execWake (tag : Byte) (s : State) : Host.Outcome State Fault Refusal :=
  .next (requestArrives ⟨0x03, tag, []⟩ s)

/-- STANDBY (R188). -/
def execStandby (tag : Byte) (s : State) : Host.Outcome State Fault Refusal :=
  .next (requestArrives ⟨0x04, tag, []⟩ s)

/-- RESTART (R189). -/
def execRestart (tag : Byte) (s : State) : Host.Outcome State Fault Refusal :=
  .next (requestArrives ⟨0x05, tag, []⟩ s)

/-- NOTICE_MASK (R192). -/
def execNoticeMask (tag classes : Byte) (s : State) : Host.Outcome State Fault Refusal :=
  .next (requestArrives ⟨0x06, tag, [classes]⟩ s)

/-- LINK_STATS (R193). -/
def execLinkStats (tag clear : Byte) (s : State) : Host.Outcome State Fault Refusal :=
  .next (requestArrives ⟨0x07, tag, [clear]⟩ s)

/-- PORT_SET (R20). -/
def execPortSet (tag port enable : Byte) (s : State) : Host.Outcome State Fault Refusal :=
  .next (requestArrives ⟨0x10, tag, [port, enable]⟩ s)

/-- PORT_READ (R21). -/
def execPortRead (tag port clear : Byte) (s : State) : Host.Outcome State Fault Refusal :=
  .next (requestArrives ⟨0x11, tag, [port, clear]⟩ s)

/-- ADC_TRIM (R22). -/
def execAdcTrim (tag port offset gain : Byte) (s : State) : Host.Outcome State Fault Refusal :=
  .next (requestArrives ⟨0x12, tag, [port, offset, gain]⟩ s)

/-- SOURCE_SET (R42). -/
def execSourceSet (tag id : Byte) (record : RawSource) (s : State) : Host.Outcome State Fault Refusal :=
  .next (requestArrives ⟨0x18, tag, id :: RawSource.bytes record⟩ s)

/-- SOURCE_READ (R44). -/
def execSourceRead (tag id : Byte) (s : State) : Host.Outcome State Fault Refusal :=
  .next (requestArrives ⟨0x19, tag, [id]⟩ s)

/-- SELECT (R45). -/
def execSelect (tag route source : Byte) (s : State) : Host.Outcome State Fault Refusal :=
  .next (requestArrives ⟨0x1A, tag, [route, source]⟩ s)

/-- ROUTE_READ (R46). -/
def execRouteRead (tag route : Byte) (s : State) : Host.Outcome State Fault Refusal :=
  .next (requestArrives ⟨0x1B, tag, [route]⟩ s)

/-- LAYOUT_SET (R64). -/
def execLayoutSet (tag : Byte) (slots : List RawSlot) (lfeToMains : Byte) (s : State) :
    Host.Outcome State Fault Refusal :=
  .next (requestArrives ⟨0x20, tag, (slots.map RawSlot.bytes).flatten ++ [lfeToMains]⟩ s)

/-- LAYOUT_READ (R65). -/
def execLayoutRead (tag selector : Byte) (s : State) : Host.Outcome State Fault Refusal :=
  .next (requestArrives ⟨0x21, tag, [selector]⟩ s)

/-- RENDER_MODE (R66). -/
def execRenderMode (tag mode : Byte) (s : State) : Host.Outcome State Fault Refusal :=
  .next (requestArrives ⟨0x22, tag, [mode]⟩ s)

/-- STEER_SET (R67). -/
def execSteerSet (tag k : Byte) (s : State) : Host.Outcome State Fault Refusal :=
  .next (requestArrives ⟨0x23, tag, [k]⟩ s)

/-- VOLUME (R84). -/
def execVolume (tag route : Byte) (value : Word16) (s : State) : Host.Outcome State Fault Refusal :=
  .next (requestArrives ⟨0x28, tag, route :: le16 value⟩ s)

/-- VOLUME_STEP (R85). -/
def execVolumeStep (tag route steps : Byte) (s : State) : Host.Outcome State Fault Refusal :=
  .next (requestArrives ⟨0x29, tag, [route, steps]⟩ s)

/-- MUTE (R86). -/
def execMute (tag route value : Byte) (s : State) : Host.Outcome State Fault Refusal :=
  .next (requestArrives ⟨0x2A, tag, [route, value]⟩ s)

/-- CHANNEL_SET (R87). -/
def execChannelSet (tag slot : Byte) (distance trim : Word16) (polarity immediate : Byte) (s : State) :
    Host.Outcome State Fault Refusal :=
  .next (requestArrives ⟨0x2B, tag, slot :: le16 distance ++ le16 trim ++ [polarity, immediate]⟩ s)

/-- CHANNEL_READ (R88). -/
def execChannelRead (tag slot : Byte) (s : State) : Host.Outcome State Fault Refusal :=
  .next (requestArrives ⟨0x2C, tag, [slot]⟩ s)

/-- LOAD (R89). -/
def execLoad (tag : Byte) (slots : Word16) (s : State) : Host.Outcome State Fault Refusal :=
  .next (requestArrives ⟨0x2D, tag, le16 slots⟩ s)

/-- RAMP_SET (R90). -/
def execRampSet (tag down up : Byte) (s : State) : Host.Outcome State Fault Refusal :=
  .next (requestArrives ⟨0x2E, tag, [down, up]⟩ s)

/-- LIPSYNC (R91). -/
def execLipsync (tag : Byte) (value : Word16) (s : State) : Host.Outcome State Fault Refusal :=
  .next (requestArrives ⟨0x2F, tag, le16 value⟩ s)

/-- ENCODER_SET (R92). -/
def execEncoderSet (tag enable clear : Byte) (s : State) : Host.Outcome State Fault Refusal :=
  .next (requestArrives ⟨0x30, tag, [enable, clear]⟩ s)

/-- PROTECT_SET (R111). -/
def execProtectSet (tag warn trip margin : Byte) (floor : Word16) (debounce limit : Byte) (sensors : List Byte) (s : State) :
    Host.Outcome State Fault Refusal :=
  .next (requestArrives ⟨0x38, tag, [warn, trip, margin] ++ le16 floor ++ [debounce, limit] ++ sensors⟩ s)

/-- PROTECT_READ (R112). -/
def execProtectRead (tag clear : Byte) (s : State) : Host.Outcome State Fault Refusal :=
  .next (requestArrives ⟨0x39, tag, [clear]⟩ s)

/-- ZONE_AMP (R113). -/
def execZoneAmp (tag value : Byte) (s : State) : Host.Outcome State Fault Refusal :=
  .next (requestArrives ⟨0x3A, tag, [value]⟩ s)

/-- FAULT_CLEAR (R114). -/
def execFaultClear (tag groups : Byte) (s : State) : Host.Outcome State Fault Refusal :=
  .next (requestArrives ⟨0x3B, tag, [groups]⟩ s)

/-- MEASURE (R117). -/
def execMeasure (tag : Byte) (slots : Word16) (repetitions : Byte) (burst : Word16) (reference apply : Byte) (s : State) :
    Host.Outcome State Fault Refusal :=
  .next (requestArrives ⟨0x40, tag, le16 slots ++ [repetitions] ++ le16 burst ++ [reference, apply]⟩ s)

/-- MEASURE_STOP (R131). -/
def execMeasureStop (tag : Byte) (s : State) : Host.Outcome State Fault Refusal :=
  .next (requestArrives ⟨0x41, tag, []⟩ s)

/-- RESULT_READ (R133). -/
def execResultRead (tag : Byte) (s : State) : Host.Outcome State Fault Refusal :=
  .next (requestArrives ⟨0x42, tag, []⟩ s)

/-- PROFILE_READ (R134). -/
def execProfileRead (tag : Byte) (s : State) : Host.Outcome State Fault Refusal :=
  .next (requestArrives ⟨0x43, tag, []⟩ s)

/-- PROFILE_WRITE (R135). -/
def execProfileWrite (tag : Byte) (slots : List RawSlot) (lfeToMains : Byte) (channels : List RawHalf) (s : State) :
    Host.Outcome State Fault Refusal :=
  .next (requestArrives ⟨0x44, tag, (slots.map RawSlot.bytes).flatten ++ [lfeToMains] ++ (channels.map RawHalf.bytes).flatten⟩ s)

/-- MEASURE_SET (R137). -/
def execMeasureSet (tag : Byte) (latency correction : Word16) (s : State) : Host.Outcome State Fault Refusal :=
  .next (requestArrives ⟨0x45, tag, le16 latency ++ le16 correction⟩ s)

/-- TUNER_SET (R152). -/
def execTunerSet (tag fmStep amStep fmLevel fmQuality amLevel amQuality address : Byte) (s : State) :
    Host.Outcome State Fault Refusal :=
  .next (requestArrives ⟨0x48, tag, [fmStep, amStep, fmLevel, fmQuality, amLevel, amQuality, address]⟩ s)

/-- TUNE (R153). -/
def execTune (tag band : Byte) (frequency : Word32) (mono : Byte) (s : State) : Host.Outcome State Fault Refusal :=
  .next (requestArrives ⟨0x49, tag, band :: le32 frequency ++ [mono]⟩ s)

/-- SEEK (R154). -/
def execSeek (tag direction : Byte) (s : State) : Host.Outcome State Fault Refusal :=
  .next (requestArrives ⟨0x4A, tag, [direction]⟩ s)

/-- SCAN (R155). -/
def execScan (tag : Byte) (s : State) : Host.Outcome State Fault Refusal :=
  .next (requestArrives ⟨0x4B, tag, []⟩ s)

/-- TUNER_STOP (R156). -/
def execTunerStop (tag : Byte) (s : State) : Host.Outcome State Fault Refusal :=
  .next (requestArrives ⟨0x4C, tag, []⟩ s)

/-- TUNER_READ (R157). -/
def execTunerRead (tag : Byte) (s : State) : Host.Outcome State Fault Refusal :=
  .next (requestArrives ⟨0x4D, tag, []⟩ s)

/-- LIST_READ (R158). -/
def execListRead (tag band : Byte) (s : State) : Host.Outcome State Fault Refusal :=
  .next (requestArrives ⟨0x4E, tag, [band]⟩ s)

/-- PRESET_STORE (R159). -/
def execPresetStore (tag preset mode band : Byte) (frequency : Word32) (mono : Byte) (s : State) :
    Host.Outcome State Fault Refusal :=
  .next (requestArrives ⟨0x4F, tag, [preset, mode, band] ++ le32 frequency ++ [mono]⟩ s)

/-- PRESET_RECALL (R160). -/
def execPresetRecall (tag preset : Byte) (s : State) : Host.Outcome State Fault Refusal :=
  .next (requestArrives ⟨0x50, tag, [preset]⟩ s)

/-- PRESET_CLEAR (R161). -/
def execPresetClear (tag preset : Byte) (s : State) : Host.Outcome State Fault Refusal :=
  .next (requestArrives ⟨0x51, tag, [preset]⟩ s)

/-- AGC_SET (R162). -/
def execAgcSet (tag mode target : Byte) (manual : Word16) (s : State) : Host.Outcome State Fault Refusal :=
  .next (requestArrives ⟨0x52, tag, [mode, target] ++ le16 manual⟩ s)

/-- RELAY (R174). -/
def execRelay (tag address hold readCount : Byte) (write : List Byte) (s : State) : Host.Outcome State Fault Refusal :=
  .next (requestArrives ⟨0x58, tag, [address, hold, readCount] ++ u8 write.length ++ write⟩ s)

/-- AUX_READ (R175). -/
def execAuxRead (tag clear : Byte) (s : State) : Host.Outcome State Fault Refusal :=
  .next (requestArrives ⟨0x59, tag, [clear]⟩ s)

/-- AUX_SET (R176). -/
def execAuxSet (tag speed : Byte) (s : State) : Host.Outcome State Fault Refusal :=
  .next (requestArrives ⟨0x5A, tag, [speed]⟩ s)

end Sys2Proof.Machine
end

