-- ==== Sys2Proof/Machine/Events.lean ====
section
/-! DEFINITION. The meanings of the event commands. A command that ends something acts while that something is under way and
leaves the state as it is otherwise; the expiry of a timer says that its time has come (log entry 6). -/

namespace Sys2Proof.Machine

/-- What a command answers. Every command of this part answers a next state. -/
abbrev Stepped := Host.Outcome State Fault Refusal

/-- The expiry of a timer that runs: its time has come, it acts, and what follows at the same event follows. -/
def expire (timer : Option Nat) (act : State → State) (s : State) : State :=
  match timer with
  | some t => settle (act (s.passTo t))
  | none => s

/-! ## Link unit and resets -/

/-- HARD_RESET (R184). -/
def execHardReset (cause : HardCause) (linkRateHigh : Bool) (s : State) : Stepped := .next (hardResetNow cause linkRateHigh s)

/-- SOFT_RESET (R184, R189): the check byte of the RESTART reply has been sent. -/
def execSoftReset (linkRateHigh : Bool) (s : State) : Stepped :=
  .next <| match s.link.outbound with
    | f :: _ => if s.link.restarting = true ∧ isRestartReply f = true then softReset linkRateHigh (transmit f s) else s
    | [] => s

/-- FRAME_RECEIVED (R177 to R180). -/
def execFrameReceived (chars : List (Option Byte)) (s : State) : Stepped := .next (receive chars s)

/-- GAP_TIMER_EXPIRY (R178). -/
def execGapTimerExpiry (s : State) : Stepped :=
  .next (if s.link.assembler = .hunting then s else expire s.link.gapDeadline gapExpired s)

/-- FRAME_SENT (R181, R183, R189). -/
def execFrameSent (s : State) : Stepped := .next (sentFrame s)

/-- QUIET_TIMER_EXPIRY (R186). -/
def execQuietTimerExpiry (s : State) : Stepped :=
  .next <| if s.link.opState = .quieting then
      expire s.link.quietDeadline (fun u => routesQuietTimeout (u.onLink fun l => { l with quietDeadline := none })) s
    else s

/-! ## Ports and audio -/

/-- MEASUREMENT_WINDOW_COMPLETE (R6 to R9, R11, R12). -/
def execMeasurementWindowComplete (port : Fin 10) (high low bitEdges : Nat) (s : State) : Stepped :=
  .next (settle (windowComplete port high low bitEdges s))

/-- EDGE_TIMER_EXPIRY (R13). -/
def execEdgeTimerExpiry (port : Fin 10) (lineHigh : Bool) (s : State) : Stepped :=
  .next (settle (edgeExpired port lineHigh s))

/-- CLOCK_RESUMED (R14). -/
def execClockResumed (port : Fin 10) (s : State) : Stepped := .next (settle (clockBack port s))

/-- STATUS_BLOCK_COMPLETE (R10). -/
def execStatusBlockComplete (port : Fin 10) (nonAudio : Bool) (wordLength : Nat) (s : State) : Stepped :=
  .next (settle (statusBlock port nonAudio wordLength s))

/-- ADC_SAMPLE (R17, R18, R120, R122, R124). -/
def execAdcSample (port : Fin 10) (left right : Sample) (s : State) : Stepped := .next (settle (adcFrame port left right s))

/-- CONVERTER_FILLED (R38). -/
def execConverterFilled (route : RouteId) (frames : List (List Sample)) (s : State) : Stepped :=
  .next (settle (fillConverter route frames s))

/-- CONVERTER_SLIP (R19, R40). -/
def execConverterSlip (route : RouteId) (frames : List (List Sample)) (s : State) : Stepped :=
  .next (settle (slipConverter route frames s))

/-! ## Routes, renderer, gain unit -/

/-- FADE_OUT_COMPLETION (R28, R29). -/
def execFadeOutCompletion (route : RouteId) (s : State) : Stepped := .next (settle (fadeCheck route s))

/-- RELAYOUT_POINT (R33, R49). -/
def execRelayoutPoint (s : State) : Stepped := .next (settle (relayoutCheck s))

/-- RENDER_MODE_TAKE_EFFECT (R57, R66). -/
def execRenderModeTakeEffect (s : State) : Stepped := .next (settle (takeRenderMode s))

/-- RENDER_BLOCK_BOUNDARY (R76 and what else falls at a boundary). -/
def execRenderBlockBoundary (block : List (List PortFrame)) (s : State) : Stepped := .next (settle (blockBoundary block s))

/-- LOAD_TRANSFER (R69). -/
def execLoadTransfer (s : State) : Stepped := .next (settle (loadTransfer s))

/-- REDELAY_COMMIT (R83). -/
def execRedelayCommit (s : State) : Stepped := .next (settle (redelayCheck s))

/-- ENCODER_LINE_CHANGE (R71, R72). -/
def execEncoderLineChange (a b : Bool) (s : State) : Stepped :=
  let t := s.onPins fun p => { p with encA := a, encB := b }
  .next <| if s.gain.encoder.enabled then
      settle (encoderStep (t.onGain fun g => { g with encoder := encoderMove a b g.encoder }))
    else t

/-! ## Protection unit -/

/-- SPACING_TIMER_EXPIRY (R96). -/
def execSpacingTimerExpiry (s : State) : Stepped := .next (expire s.protect.spacing spacingExpired s)

/-- The settle of a POWERING group has ended (R97). -/
def settled (g : Fin 6) (faultHigh : Bool) (s : State) : State :=
  let t := s.onGroup g fun x => { x with settle := none }
  groupEvent g (if faultHigh then setGroupState g .on else countedFault g) t

/-- SETTLE_TIMER_EXPIRY (R97). -/
def execSettleTimerExpiry (group : Fin 6) (faultHigh : Bool) (s : State) : Stepped :=
  .next <| if (s.group group).state = .powering then expire (s.group group).settle (settled group faultHigh) s else s

/-- READBACK_CHECK (R95): the oldest 1 ms check that is still to be made of the group is made. -/
def execReadbackCheck (group : Fin 6) (levelHigh : Bool) (s : State) : Stepped :=
  .next <| expire (s.group group).readback.head?
    (fun u => groupEvent group (readback group levelHigh) (u.onGroup group fun x => { x with readback := x.readback.tail })) s

/-- Whether a falling edge of a group's fault line counts (R101). -/
def edgeCounts (s : State) (g : Fin 6) : Bool :=
  (decide ((s.group g).state = .powering) || decide ((s.group g).state = .on)) && decide ((s.group g).debounceEnd ≤ s.now)

/-- FAULT_EDGE (R101). -/
def execFaultEdge (group : Fin 6) (s : State) : Stepped :=
  .next (if edgeCounts s group then settle (groupEvent group (countedFault group) s) else s)

/-- The retry timer of a group in FAULT_WAIT has expired (R103, R106). -/
def retryDue (g : Fin 6) (s : State) : State :=
  let t := s.onGroup g fun x => { x with retry := none }
  if (s.group g).cause ≠ .thermal ∨ (s.group g).coolSeen = true then groupEvent g (retryGroup g) t else t

/-- RETRY_TIMER_EXPIRY (R103, R106). -/
def execRetryTimerExpiry (group : Fin 6) (s : State) : Stepped :=
  .next <| if (s.group group).state = .faultWait then expire (s.group group).retry (retryDue group) s else s

/-- FAULT_WINDOW_EXPIRY (R102). -/
def execFaultWindowExpiry (group : Fin 6) (s : State) : Stepped :=
  .next <| expire (s.group group).window
    (fun u => u.onGroup group fun x => { x with faultCount := 0, windowStart := none, window := none }) s

/-- The poll of a tick (R104): the next sensored group's sensor is read, unless the last poll is still out. -/
def pollNext (s : State) : State :=
  match s.bus.protectSlot, nextPolled s.protect with
  | none, some g =>
    if s.bus.state = .busDown then takePoll g .busFault (s.onProtect fun p => { p with lastPolled := some g, polling := none })
    else
      match (s.group g).sensor with
      | some a =>
        busPost .protect ⟨a, [], 2, false⟩ (s.onProtect fun p => { p with lastPolled := some g, polling := some g })
      | none => s
  | _, _ => s

/-- One poll tick (R95, R104). -/
def tick (levels : BitVec 6) (s : State) : State :=
  groupsEvent
    (fun t => pollNext (allGroups.foldl (fun u g => readback g (levels.getLsbD g.1) u) t))
    (s.onProtect fun p => { p with tick := p.tick.map (· + 100) })

/-- POLL_TICK (R95, R104). -/
def execPollTick (levels : BitVec 6) (s : State) : Stepped := .next (expire s.protect.tick (tick levels) s)

/-! ## Measurement unit -/

/-- SLOT_TURN (R119). -/
def execSlotTurn (s : State) : Stepped := .next (settle (slotTurn s))

/-- AMBIENT_PHASE_END (R120, R121). -/
def execAmbientPhaseEnd (s : State) : Stepped := .next (settle (ambientEnd s))

/-- BURST_END (R121). -/
def execBurstEnd (s : State) : Stepped := .next (settle (burstEnd s))

/-- LISTEN_PHASE_END (R122 to R124, R126, R128). -/
def execListenPhaseEnd (s : State) : Stepped := .next (settle (listenOver s))

/-- MEASURE_COMPLETE (R129). -/
def execMeasureComplete (s : State) : Stepped := .next (settle (runComplete s))

/-! ## Tuner unit -/

/-- HUSH_TIMER_EXPIRY (R32, R143). -/
def execHushTimerExpiry (s : State) : Stepped :=
  .next <| if s.tuner.state = .hushing then expire s.tuner.hush (fun u => serve (beginOp (hushTimeout u))) s else s

/-- The settle timer has expired: a status read is called for (R144, R146). -/
def settleRead (s : State) : State :=
  let t := s.onTuner fun t => { t with settle := none }
  match s.tuner.state with
  | .tuning => serve ⟨t, some .tuneRead, .no⟩
  | .seeking | .scanning => serve ⟨t, some .visitRead, .no⟩
  | _ => t

/-- TUNER_SETTLE_EXPIRY (R144, R146). -/
def execTunerSettleExpiry (s : State) : Stepped := .next (expire s.tuner.settle settleRead s)

/-- The listening poll timer has expired; no read is posted while a transaction is outstanding (R145). -/
def listenPoll (s : State) : State :=
  let t := s.onTuner fun t => { t with poll := t.poll.map (· + 50) }
  if s.tuner.outstanding = none then serve ⟨t, some .listenRead, .no⟩ else t

/-- LISTENING_POLL_EXPIRY (R145). -/
def execListeningPollExpiry (s : State) : Stepped :=
  .next (if s.tuner.state = .listening then expire s.tuner.poll listenPoll s else s)

/-! ## Auxiliary bus -/

/-- TRANSACTION_END (R165, R166, R168). -/
def execTransactionEnd (answer : BusAnswer) (s : State) : Stepped := .next (settle (endTransaction answer s))

/-- STUCK_DETECT (R170). -/
def execStuckDetect (line : StuckLine) (s : State) : Stepped := .next (settle (detectStuck line s))

/-- RECOVERY_END (R171, R172). -/
def execRecoveryEnd (lines : RecoveryLines) (s : State) : Stepped := .next (settle (endRecovery lines s))

/-- HOLD_TIMER_EXPIRY (R169). -/
def execHoldTimerExpiry (s : State) : Stepped :=
  .next (if s.bus.state = .held then expire s.bus.hold holdExpired s else s)

/-- BUS_RETRY_TIMER_EXPIRY (R172). -/
def execBusRetryTimerExpiry (s : State) : Stepped :=
  .next (if s.bus.state = .busDown then expire s.bus.retry retryExpired s else s)

end Sys2Proof.Machine
end

