-- ==== Sys2Proof/Machine/Dispatch.lean ====
section
/-! DEFINITION. The meaning of each command: one arm for each constructor of `Instr`, each a call of its own meaning. -/

namespace Sys2Proof.Machine

def exec (i : Instr) (s : State) : Host.Outcome State Fault Refusal :=
  match i with
  | .hardReset cause linkRateHigh => Sys2Proof.Machine.execHardReset cause linkRateHigh s
  | .softReset linkRateHigh => Sys2Proof.Machine.execSoftReset linkRateHigh s
  | .frameReceived chars => Sys2Proof.Machine.execFrameReceived chars s
  | .gapTimerExpiry => Sys2Proof.Machine.execGapTimerExpiry s
  | .badKind tag kind body => Sys2Proof.Machine.execBadKind tag kind body s
  | .frameSent => Sys2Proof.Machine.execFrameSent s
  | .ident tag => Sys2Proof.Machine.execIdent tag s
  | .partRead tag => Sys2Proof.Machine.execPartRead tag s
  | .wake tag => Sys2Proof.Machine.execWake tag s
  | .standby tag => Sys2Proof.Machine.execStandby tag s
  | .restart tag => Sys2Proof.Machine.execRestart tag s
  | .noticeMask tag classes => Sys2Proof.Machine.execNoticeMask tag classes s
  | .linkStats tag clear => Sys2Proof.Machine.execLinkStats tag clear s
  | .quietTimerExpiry => Sys2Proof.Machine.execQuietTimerExpiry s
  | .portSet tag port enable => Sys2Proof.Machine.execPortSet tag port enable s
  | .portRead tag port clear => Sys2Proof.Machine.execPortRead tag port clear s
  | .adcTrim tag port offset gain => Sys2Proof.Machine.execAdcTrim tag port offset gain s
  | .measurementWindowComplete port high low bitEdges => Sys2Proof.Machine.execMeasurementWindowComplete port high low bitEdges s
  | .edgeTimerExpiry port lineHigh => Sys2Proof.Machine.execEdgeTimerExpiry port lineHigh s
  | .clockResumed port => Sys2Proof.Machine.execClockResumed port s
  | .statusBlockComplete port nonAudio wordLength => Sys2Proof.Machine.execStatusBlockComplete port nonAudio wordLength s
  | .adcSample port left right => Sys2Proof.Machine.execAdcSample port left right s
  | .converterFilled route frames => Sys2Proof.Machine.execConverterFilled route frames s
  | .converterSlip route frames => Sys2Proof.Machine.execConverterSlip route frames s
  | .sourceSet tag id record => Sys2Proof.Machine.execSourceSet tag id record s
  | .sourceRead tag id => Sys2Proof.Machine.execSourceRead tag id s
  | .select tag route source => Sys2Proof.Machine.execSelect tag route source s
  | .routeRead tag route => Sys2Proof.Machine.execRouteRead tag route s
  | .fadeOutCompletion route => Sys2Proof.Machine.execFadeOutCompletion route s
  | .relayoutPoint => Sys2Proof.Machine.execRelayoutPoint s
  | .layoutSet tag slots lfeToMains => Sys2Proof.Machine.execLayoutSet tag slots lfeToMains s
  | .layoutRead tag selector => Sys2Proof.Machine.execLayoutRead tag selector s
  | .renderMode tag mode => Sys2Proof.Machine.execRenderMode tag mode s
  | .renderModeTakeEffect => Sys2Proof.Machine.execRenderModeTakeEffect s
  | .steerSet tag k => Sys2Proof.Machine.execSteerSet tag k s
  | .renderBlockBoundary block => Sys2Proof.Machine.execRenderBlockBoundary block s
  | .loadTransfer => Sys2Proof.Machine.execLoadTransfer s
  | .redelayCommit => Sys2Proof.Machine.execRedelayCommit s
  | .volume tag route value => Sys2Proof.Machine.execVolume tag route value s
  | .volumeStep tag route steps => Sys2Proof.Machine.execVolumeStep tag route steps s
  | .mute tag route value => Sys2Proof.Machine.execMute tag route value s
  | .channelSet tag slot distance trim polarity immediate => Sys2Proof.Machine.execChannelSet tag slot distance trim polarity immediate s
  | .channelRead tag slot => Sys2Proof.Machine.execChannelRead tag slot s
  | .load tag slots => Sys2Proof.Machine.execLoad tag slots s
  | .rampSet tag down up => Sys2Proof.Machine.execRampSet tag down up s
  | .lipsync tag value => Sys2Proof.Machine.execLipsync tag value s
  | .encoderSet tag enable clear => Sys2Proof.Machine.execEncoderSet tag enable clear s
  | .encoderLineChange a b => Sys2Proof.Machine.execEncoderLineChange a b s
  | .protectSet tag warn trip margin floor debounce limit sensors => Sys2Proof.Machine.execProtectSet tag warn trip margin floor debounce limit sensors s
  | .protectRead tag clear => Sys2Proof.Machine.execProtectRead tag clear s
  | .zoneAmp tag value => Sys2Proof.Machine.execZoneAmp tag value s
  | .faultClear tag groups => Sys2Proof.Machine.execFaultClear tag groups s
  | .spacingTimerExpiry => Sys2Proof.Machine.execSpacingTimerExpiry s
  | .settleTimerExpiry group faultHigh => Sys2Proof.Machine.execSettleTimerExpiry group faultHigh s
  | .readbackCheck group levelHigh => Sys2Proof.Machine.execReadbackCheck group levelHigh s
  | .faultEdge group => Sys2Proof.Machine.execFaultEdge group s
  | .retryTimerExpiry group => Sys2Proof.Machine.execRetryTimerExpiry group s
  | .faultWindowExpiry group => Sys2Proof.Machine.execFaultWindowExpiry group s
  | .pollTick levels => Sys2Proof.Machine.execPollTick levels s
  | .measure tag slots repetitions burst reference apply => Sys2Proof.Machine.execMeasure tag slots repetitions burst reference apply s
  | .slotTurn => Sys2Proof.Machine.execSlotTurn s
  | .ambientPhaseEnd => Sys2Proof.Machine.execAmbientPhaseEnd s
  | .burstEnd => Sys2Proof.Machine.execBurstEnd s
  | .listenPhaseEnd => Sys2Proof.Machine.execListenPhaseEnd s
  | .measureComplete => Sys2Proof.Machine.execMeasureComplete s
  | .measureStop tag => Sys2Proof.Machine.execMeasureStop tag s
  | .resultRead tag => Sys2Proof.Machine.execResultRead tag s
  | .profileRead tag => Sys2Proof.Machine.execProfileRead tag s
  | .profileWrite tag slots lfeToMains channels => Sys2Proof.Machine.execProfileWrite tag slots lfeToMains channels s
  | .measureSet tag latency correction => Sys2Proof.Machine.execMeasureSet tag latency correction s
  | .tunerSet tag fmStep amStep fmLevel fmQuality amLevel amQuality address => Sys2Proof.Machine.execTunerSet tag fmStep amStep fmLevel fmQuality amLevel amQuality address s
  | .tune tag band frequency mono => Sys2Proof.Machine.execTune tag band frequency mono s
  | .seek tag direction => Sys2Proof.Machine.execSeek tag direction s
  | .scan tag => Sys2Proof.Machine.execScan tag s
  | .tunerStop tag => Sys2Proof.Machine.execTunerStop tag s
  | .tunerRead tag => Sys2Proof.Machine.execTunerRead tag s
  | .listRead tag band => Sys2Proof.Machine.execListRead tag band s
  | .presetStore tag preset mode band frequency mono => Sys2Proof.Machine.execPresetStore tag preset mode band frequency mono s
  | .presetRecall tag preset => Sys2Proof.Machine.execPresetRecall tag preset s
  | .presetClear tag preset => Sys2Proof.Machine.execPresetClear tag preset s
  | .agcSet tag mode target manual => Sys2Proof.Machine.execAgcSet tag mode target manual s
  | .hushTimerExpiry => Sys2Proof.Machine.execHushTimerExpiry s
  | .tunerSettleExpiry => Sys2Proof.Machine.execTunerSettleExpiry s
  | .listeningPollExpiry => Sys2Proof.Machine.execListeningPollExpiry s
  | .relay tag address hold readCount write => Sys2Proof.Machine.execRelay tag address hold readCount write s
  | .auxRead tag clear => Sys2Proof.Machine.execAuxRead tag clear s
  | .auxSet tag speed => Sys2Proof.Machine.execAuxSet tag speed s
  | .transactionEnd answer => Sys2Proof.Machine.execTransactionEnd answer s
  | .stuckDetect line => Sys2Proof.Machine.execStuckDetect line s
  | .recoveryEnd lines => Sys2Proof.Machine.execRecoveryEnd lines s
  | .holdTimerExpiry => Sys2Proof.Machine.execHoldTimerExpiry s
  | .busRetryTimerExpiry => Sys2Proof.Machine.execBusRetryTimerExpiry s

end Sys2Proof.Machine
end

