-- ==== Sys2Proof/Machine/Step.lean ====
section
/-! DEFINITION. One step: the command at the front of the queue of waiting commands runs. -/

namespace Sys2Proof.Machine

/-- The state without its oldest waiting command. -/
def State.popped (s : State) (rest : List Instr) : State := { s with pending := rest }

/-- The command at the front is taken and executed with the rest of the queue; with none waiting the part idles (log
entry 1). -/
def step (s : State) : Host.Outcome State Fault Refusal :=
  match s.pending with
  | [] => .next s
  | c :: rest => exec c (s.popped rest)

/-- `s` with the command that the word spells at the front of its queue; unchanged where the word spells none. -/
def State.withFetchWord (s : State) (nbits w : Nat) : State :=
  match decodeTableWord nbits w with
  | some c => { s with pending := c :: s.pending }
  | none => s

end Sys2Proof.Machine
end

