-- ==== Sys2Proof/Safety.lean ====
section
/-! DEFINITION. The terms in which claims about the machine are made: when a request is answered at its arrival, the state
with a reply queued, the frame of a request command, and the conditions that every step keeps. -/

namespace Sys2Proof.Machine

/-! ## Requests and replies -/

/-- No judgement is due: no hush waits for an end that has come (R143), no WAKING for a start list that has finished (R185),
no QUIETING for routes that are silent (R186). -/
abbrev State.nothingDue (s : State) : Prop :=
  (s.tuner.state = .hushing → hushHeld s = true) ∧ (s.link.opState = .waking → startListDone s = false)
    ∧ (s.link.opState = .quieting → routesSilent s = false)

/-- A short request with this tag is dispatched at its arrival: the tag may be carried (section 10.1), no request waits, no
RESTART is under way, and a reply place is free (R179, R180). -/
abbrev State.serves (s : State) (tag : Byte) : Prop :=
  tag ≠ 0 ∧ s.link.requests = [] ∧ s.link.restarting = false ∧ placesUsed .reply s.link.outbound < 8 ∧ s.nothingDue

/-- A long request too: a completion place is free (R180). -/
abbrev State.servesLong (s : State) (tag : Byte) : Prop := s.serves tag ∧ completionPlaces s < 4

/-- The dispatch of a request is counted (R193). -/
def State.taken (s : State) : State := s.onLink fun l => { l with counters := { l.counters with taken := count16 l.counters.taken } }

/-- A request has been taken and its reply is the newest frame of the outbound queue: reply kind, tag, status byte, and the
body unless the status goes alone (R181, R196). -/
def State.replied (s : State) (kind tag : Byte) (st : Status) (body : List Byte) : State :=
  s.taken.enqueue ⟨.reply, kind + 0x80, tag, replyBody st body⟩

/-- No route has the port selected or at its converter, and no run listens to it: what the port does stays in its record
(R15, R30, R130). -/
abbrev State.portUnused (s : State) (p : Fin 10) : Prop :=
  (∀ i, s.main.selected = some i → (s.source i).port ≠ p) ∧ (∀ i, s.zone.selected = some i → (s.source i).port ≠ p)
    ∧ s.main.conv.input.map (·.port) ≠ some p ∧ s.zone.conv.input.map (·.port) ≠ some p ∧ (p = 9 → s.measure.run = none)

/-- The PORT notice of a record (R16, R198): reason, port, lock state, rate class, format, channels, and on an S port the
non-audio flag. -/
def portNoticeBytes (reason : Byte) (p : Fin 10) (x : Port) : List Byte :=
  [reason, number p, lockCode x.lock, rateCode x.rate, formatCode x.format, BitVec.ofNat 8 x.channels]
    ++ if p = 4 ∨ p = 5 then [1, flagCode x.nonAudio] else [0, 0]

/-- The PROTECT notice of a group record (R110, R198): reason (STATE 0, ATTENUATION 1, SENSOR 2), group, state, cause, fault
count, attenuation, last temperature if there is one, SENSOR_LOST. -/
def groupNoticeBytes (reason : Byte) (g : Fin 6) (x : Group) : List Byte :=
  [reason, BitVec.ofNat 8 (g.1 + 1), groupStateCode x.state, groupCauseCode x.cause, BitVec.ofNat 8 x.faultCount]
    ++ s16 x.attenuation
    ++ (match x.lastTemp with
      | some degrees => [1, BitVec.ofInt 8 degrees]
      | none => [0, 0])
    ++ [flagCode x.sensorLost]

/-- The reason of the one PROTECT notice that an event calls for which found a group record as `before` and leaves it as
`after` (R110): STATE for a change of the state or of the cause from CURRENT to THERMAL, else SENSOR for a change of
SENSOR_LOST, else ATTENUATION for a change that leaves the attenuation 1.0 dB or more from the reported one. -/
def groupReason (before after : Group) : Option Byte :=
  if after.state ≠ before.state ∨ (before.cause = .current ∧ after.cause = .thermal) then some 0
  else if after.sensorLost ≠ before.sensorLost then some 2
  else if after.attenuation ≠ before.attenuation
    ∧ (before.reported + 10 ≤ after.attenuation ∨ after.attenuation + 10 ≤ before.reported) then some 1
  else none

/-- The state with that notice created, if one is called for (R110). -/
def State.tellsGroup (s : State) (g : Fin 6) (before after : Group) : State :=
  match groupReason before after with
  | some reason => emit .protect (groupNoticeBytes reason g after) s
  | none => s

/-- The reported attenuation after the event: the one that the notice carries, or as it was (R110). -/
def toldAttenuation (before after : Group) : Int :=
  if groupReason before after = none then before.reported else after.attenuation

/-- The notices of an event that leaves the six groups as in `t`, one for each group that calls for one, in group order (R110;
their order is the model's, log entry 12). -/
def State.tellsGroups (s t : State) (u : State) : State :=
  (List.finRange 6).foldl (fun v g => v.tellsGroup g (s.group g) (t.group g)) u

/-- No run probes a slot of the group. -/
abbrev State.probesNoneOf (s : State) (g : Fin 6) : Prop :=
  ∀ run : Run, s.measure.run = some run → ∀ p : Probe, run.probe = some p → groupOf p.slot ≠ g

/-- The TUNER notice of a record (R151, R198): reason (STATE 0, STEREO 1, AUX 2), state, band, frequency, forced mono, level,
quality, stereo, failure run. -/
def tunerNoticeBytes (reason : Byte) (x : Tuner) : List Byte :=
  [reason, tunerStateCode x.state, bandCode x.band] ++ u32 x.frequency
    ++ [flagCode x.mono, BitVec.ofNat 8 x.level, BitVec.ofNat 8 x.quality, flagCode x.stereo, BitVec.ofNat 8 x.failRun]

/-- The ROUTE notices of an event that leaves the routes as in `t`, MAIN before ZONE, one for each route that it changed
(R41). -/
def State.tellsRoutes (s t : State) (u : State) : State :=
  [RouteId.main, .zone].foldl (fun v r => if t.route r = s.route r then v else emit .route (0 :: routeBytes r (t.route r)) v) u

/-- The delay lines of the slots that were present hold silence after an event (R81). -/
abbrev State.linesSilent (s t : State) : Prop := ∀ i ∈ s.render.present, ∀ x ∈ (t.channel i).line, x = 0

/-- The outputs of a route stand muted after an event (R77). -/
abbrev State.mutesRoute (s t : State) (r : RouteId) : Prop :=
  (r = .main → ∀ i ∈ s.render.present, (t.channel i).current = -1000 ∧ (t.channel i).coef = 0)
    ∧ (r = .zone → t.gain.zoneCurrent = -1000 ∧ t.gain.zoneCoef = 0
      ∧ (s.gain.zoneAssigned = true → (t.channel 6).current = -1000 ∧ (t.channel 6).coef = 0
        ∧ (t.channel 7).current = -1000 ∧ (t.channel 7).coef = 0))

/-- What a lost lock of a port does at every route (R30): the converter that takes the port is SUSPENDED, a route that plays
or fades one of its sources is muted, and a WAITING one has its reason judged again. -/
abbrev State.losesLockAt (s t : State) (p : Fin 10) : Prop :=
  ∀ r : RouteId,
    let x := s.route r
    let y := t.route r
    let selects : Prop := ∃ i, x.selected = some i ∧ (s.source i).port = p
    y.conv = (if x.conv.input.map (·.port) = some p then { x.conv with state := .suspended, fifo := [], given := [] } else x.conv)
    ∧ (selects → x.state = .playing →
        y = { x with state := .waiting, purpose := none, pending := none, reason := some .noLock, conv := y.conv }
        ∧ s.mutesRoute t r)
    ∧ (selects → x.state = .fadingOut → y = { x with conv := y.conv } ∧ s.mutesRoute t r)
    ∧ (∀ i, x.selected = some i → (s.source i).port = p → x.state = .waiting →
        y = { x with
          reason := some (if (s.source i).tunerBound = true ∧ s.tuner.state ≠ .listening then .tunerBusy
            else if (s.source i).enabled = false then .sourceDisabled else .noLock)
          conv := y.conv })
    ∧ (¬selects ∨ x.state = .silent ∨ x.state = .measure → y = { x with conv := y.conv })

/-- What a gained lock of a port, or a cleared non-audio flag, does at every route (R30): a WAITING route of one of its
sources is judged by R26, and attached afresh when the source is playable; no other route changes. -/
abbrev State.mayPlayAt (s t : State) (p : Fin 10) : Prop :=
  ∀ r : RouteId,
    let x := s.route r
    let y := t.route r
    let q := t.port p
    let same : Prop := y.conv.state = x.conv.state ∧ y.conv.input = x.conv.input ∧ y.conv.fifo = x.conv.fifo
    (∀ i, x.selected = some i → (s.source i).port = p → x.state = .waiting →
      let z := s.source i
      let why : Option Reason :=
        if z.tunerBound = true ∧ s.tuner.state ≠ .listening then some .tunerBusy
        else if z.enabled = false then some .sourceDisabled
        else if q.lock ≠ .locked then some .noLock
        else if q.nonAudio = true then some .bitstream
        else none
      (why ≠ none → y = { x with reason := why, conv := y.conv } ∧ same)
      ∧ (why = none → y.state = .playing ∧ y.reason = none ∧ y.selected = some i ∧ y.pending = none ∧ y.purpose = none
          ∧ y.degraded = decide (q.channels < z.first + z.count) ∧ y.conv.state = .filling ∧ y.conv.fifo = []
          ∧ y.conv.phase = 0 ∧ y.conv.input = some ⟨p, z.first, z.count, z.swap⟩))
    ∧ ((∀ i, x.selected = some i → (s.source i).port ≠ p) ∨ x.state ≠ .waiting → y = { x with conv := y.conv } ∧ same)

/-- The kinds and body lengths of the requests of fixed length, as the catalogue of R195 lists them; RELAY, kind 0x58, has
4 bytes and those its write count tells. -/
def bodyLengths : List (Byte × Nat) :=
  [(0x01, 0), (0x02, 0), (0x03, 0), (0x04, 0), (0x05, 0), (0x06, 1), (0x07, 1), (0x10, 2), (0x11, 2), (0x12, 3), (0x18, 20),
   (0x19, 1), (0x1A, 2), (0x1B, 1), (0x20, 49), (0x21, 1), (0x22, 1), (0x23, 1), (0x28, 3), (0x29, 2), (0x2A, 2), (0x2B, 7),
   (0x2C, 1), (0x2D, 2), (0x2E, 2), (0x2F, 2), (0x30, 2), (0x38, 13), (0x39, 1), (0x3A, 1), (0x3B, 1), (0x40, 7), (0x41, 0),
   (0x42, 0), (0x43, 0), (0x44, 109), (0x45, 4), (0x48, 7), (0x49, 6), (0x4A, 1), (0x4B, 0), (0x4C, 0), (0x4D, 0), (0x4E, 1),
   (0x4F, 8), (0x50, 1), (0x51, 1), (0x52, 4), (0x59, 1), (0x5A, 1)]

/-- WAKE, STANDBY, SEEK, SCAN, MEASURE and RELAY (R180). -/
def longKinds : List Byte := [0x03, 0x04, 0x4A, 0x4B, 0x40, 0x58]

/-- The frame that carries a request command: kind, tag and body (R195). An event command has none. -/
def Instr.frame : Instr → Option (Byte × Byte × List Byte)
  | .badKind tag kind body => some (kind, tag, body)
  | .ident tag => some (0x01, tag, [])
  | .partRead tag => some (0x02, tag, [])
  | .wake tag => some (0x03, tag, [])
  | .standby tag => some (0x04, tag, [])
  | .restart tag => some (0x05, tag, [])
  | .noticeMask tag classes => some (0x06, tag, [classes])
  | .linkStats tag clear => some (0x07, tag, [clear])
  | .portSet tag port enable => some (0x10, tag, [port, enable])
  | .portRead tag port clear => some (0x11, tag, [port, clear])
  | .adcTrim tag port offset gain => some (0x12, tag, [port, offset, gain])
  | .sourceSet tag id record => some (0x18, tag, id :: RawSource.bytes record)
  | .sourceRead tag id => some (0x19, tag, [id])
  | .select tag route source => some (0x1A, tag, [route, source])
  | .routeRead tag route => some (0x1B, tag, [route])
  | .layoutSet tag slots lfe => some (0x20, tag, (slots.map RawSlot.bytes).flatten ++ [lfe])
  | .layoutRead tag selector => some (0x21, tag, [selector])
  | .renderMode tag mode => some (0x22, tag, [mode])
  | .steerSet tag k => some (0x23, tag, [k])
  | .volume tag route value => some (0x28, tag, route :: le16 value)
  | .volumeStep tag route steps => some (0x29, tag, [route, steps])
  | .mute tag route value => some (0x2A, tag, [route, value])
  | .channelSet tag slot distance trim polarity immediate =>
    some (0x2B, tag, slot :: le16 distance ++ le16 trim ++ [polarity, immediate])
  | .channelRead tag slot => some (0x2C, tag, [slot])
  | .load tag slots => some (0x2D, tag, le16 slots)
  | .rampSet tag down up => some (0x2E, tag, [down, up])
  | .lipsync tag value => some (0x2F, tag, le16 value)
  | .encoderSet tag enable clear => some (0x30, tag, [enable, clear])
  | .protectSet tag warn trip margin floor debounce limit sensors =>
    some (0x38, tag, [warn, trip, margin] ++ le16 floor ++ [debounce, limit] ++ sensors)
  | .protectRead tag clear => some (0x39, tag, [clear])
  | .zoneAmp tag value => some (0x3A, tag, [value])
  | .faultClear tag groups => some (0x3B, tag, [groups])
  | .measure tag slots repetitions burst reference apply =>
    some (0x40, tag, le16 slots ++ [repetitions] ++ le16 burst ++ [reference, apply])
  | .measureStop tag => some (0x41, tag, [])
  | .resultRead tag => some (0x42, tag, [])
  | .profileRead tag => some (0x43, tag, [])
  | .profileWrite tag slots lfe channels =>
    some (0x44, tag, (slots.map RawSlot.bytes).flatten ++ [lfe] ++ (channels.map RawHalf.bytes).flatten)
  | .measureSet tag latency correction => some (0x45, tag, le16 latency ++ le16 correction)
  | .tunerSet tag fmStep amStep fmLevel fmQuality amLevel amQuality address =>
    some (0x48, tag, [fmStep, amStep, fmLevel, fmQuality, amLevel, amQuality, address])
  | .tune tag band frequency mono => some (0x49, tag, band :: le32 frequency ++ [mono])
  | .seek tag direction => some (0x4A, tag, [direction])
  | .scan tag => some (0x4B, tag, [])
  | .tunerStop tag => some (0x4C, tag, [])
  | .tunerRead tag => some (0x4D, tag, [])
  | .listRead tag band => some (0x4E, tag, [band])
  | .presetStore tag preset mode band frequency mono =>
    some (0x4F, tag, [preset, mode, band] ++ le32 frequency ++ [mono])
  | .presetRecall tag preset => some (0x50, tag, [preset])
  | .presetClear tag preset => some (0x51, tag, [preset])
  | .agcSet tag mode target manual => some (0x52, tag, [mode, target] ++ le16 manual)
  | .relay tag address hold readCount write => some (0x58, tag, [address, hold, readCount] ++ u8 write.length ++ write)
  | .auxRead tag clear => some (0x59, tag, [clear])
  | .auxSet tag speed => some (0x5A, tag, [speed])
  | .hardReset _ _ | .softReset _ | .frameReceived _ | .gapTimerExpiry | .frameSent | .quietTimerExpiry => none
  | .measurementWindowComplete _ _ _ _ | .edgeTimerExpiry _ _ | .clockResumed _ | .statusBlockComplete _ _ _ => none
  | .adcSample _ _ _ | .converterFilled _ _ | .converterSlip _ _ | .fadeOutCompletion _ | .relayoutPoint => none
  | .renderModeTakeEffect | .renderBlockBoundary _ | .loadTransfer | .redelayCommit | .encoderLineChange _ _ => none
  | .spacingTimerExpiry | .settleTimerExpiry _ _ | .readbackCheck _ _ | .faultEdge _ | .retryTimerExpiry _ => none
  | .faultWindowExpiry _ | .pollTick _ | .slotTurn | .ambientPhaseEnd | .burstEnd | .listenPhaseEnd => none
  | .measureComplete | .hushTimerExpiry | .tunerSettleExpiry | .listeningPollExpiry | .transactionEnd _ => none
  | .stuckDetect _ | .recoveryEnd _ | .holdTimerExpiry | .busRetryTimerExpiry => none

/-! ## Conditions that every step keeps -/

/-- The queues of the link unit stay within their places (R179, R181, R182), and the gap timer runs inside a frame only
(R177, R178). -/
abbrev State.linkWithin (s : State) : Prop :=
  s.link.requests.length ≤ 8 ∧ placesUsed .reply s.link.outbound ≤ 8 ∧ completionPlaces s ≤ 4
    ∧ placesUsed .event s.link.outbound ≤ 16 ∧ (s.link.gapDeadline = none ↔ s.link.assembler = .hunting)

/-- The tuner is OFF while the part is not RUNNING (R142). -/
abbrev State.tunerRuns (s : State) : Prop := s.tuner.state = .off ∨ s.link.opState = .running

/-- A volume is a multiple of 0.5 dB inside the range of its route (R70). -/
abbrev State.volumesLegal (s : State) : Prop :=
  (s.gain.mainVolume % 5 = 0 ∧ -800 ≤ s.gain.mainVolume ∧ s.gain.mainVolume ≤ 150)
    ∧ (s.gain.zoneVolume % 5 = 0 ∧ -800 ≤ s.gain.zoneVolume ∧ s.gain.zoneVolume ≤ 0)

/-- A slot whose group is not ON is silent, a slot that is heard has the coefficient of its level, and that level is in range
(R68, R78, R79). -/
abbrev State.slotSafe (s : State) (i : Fin 12) : Prop :=
  (s.groupOn i = false → (s.channel i).coef = 0)
    ∧ ((s.channel i).coef = 0 ∨ (s.channel i).coef = gainLaw (s.channel i).current)
    ∧ -1000 ≤ (s.channel i).current ∧ (s.channel i).current ≤ 180

/-- The enable line of a group is driven exactly in POWERING and ON (R95). -/
abbrev State.groupSafe (s : State) (g : Fin 6) : Prop :=
  (s.group g).driven = true ↔ ((s.group g).state = .powering ∨ (s.group g).state = .on)

abbrev State.amplifiersSafe (s : State) : Prop := (∀ i, s.slotSafe i) ∧ ∀ g, s.groupSafe g

end Sys2Proof.Machine
end

