-- ==== Sys2Proof/WellFormed.lean ====
section
/-! DEFINITION. The commands that can reach the part: what the wire and the block's own structure let a sender form. -/

namespace Sys2Proof

/-- A frame of a port: samples of at most 8 channels, from a D or an S port (R1). -/
def PortFrame.wf (f : PortFrame) : Bool := decide (f.port.1 < 6) && decide (f.samples.length ≤ 8)

/-- Well-formed commands. A request has a tag from 1 to 255 (section 10.1) and lists of the lengths of R195 and R197; a
window, an edge timer and a returning clock belong to a D or S port (R6, R13, R14), a status block to an S port with a word
length of R10, a sample to an A or MIC port (R17); a render block has 48 frames (00_scope). -/
def Instr.wf : Instr → Bool
  | .hardReset _ _ | .softReset _ | .gapTimerExpiry | .frameSent | .quietTimerExpiry => true
  | .frameReceived _ => true
  | .badKind tag _ body => decide (tag ≠ 0) && decide (body.length ≤ 240)
  | .ident tag | .partRead tag | .wake tag | .standby tag | .restart tag => decide (tag ≠ 0)
  | .noticeMask tag _ | .linkStats tag _ => decide (tag ≠ 0)
  | .portSet tag _ _ | .portRead tag _ _ | .adcTrim tag _ _ _ => decide (tag ≠ 0)
  | .measurementWindowComplete p _ _ _ | .edgeTimerExpiry p _ | .clockResumed p => decide (p.1 < 6)
  | .statusBlockComplete p _ n => decide (p.1 = 4 ∨ p.1 = 5) && decide (n = 0 ∨ 16 ≤ n ∧ n ≤ 24)
  | .adcSample p _ _ => decide (6 ≤ p.1)
  | .converterFilled _ fs | .converterSlip _ fs => fs.all fun f => decide (f.length ≤ 8)
  | .sourceSet tag _ x => decide (tag ≠ 0) && decide (x.layout.length = 8)
  | .sourceRead tag _ | .routeRead tag _ => decide (tag ≠ 0)
  | .select tag _ _ => decide (tag ≠ 0)
  | .fadeOutCompletion _ | .relayoutPoint | .renderModeTakeEffect | .loadTransfer | .redelayCommit => true
  | .layoutSet tag slots _ => decide (tag ≠ 0) && decide (slots.length = 12)
  | .layoutRead tag _ | .renderMode tag _ | .steerSet tag _ => decide (tag ≠ 0)
  | .renderBlockBoundary block => decide (block.length = 48) && block.all fun fs => fs.all (·.wf)
  | .volume tag _ _ | .volumeStep tag _ _ | .mute tag _ _ => decide (tag ≠ 0)
  | .channelSet tag _ _ _ _ _ => decide (tag ≠ 0)
  | .channelRead tag _ | .load tag _ | .lipsync tag _ => decide (tag ≠ 0)
  | .rampSet tag _ _ | .encoderSet tag _ _ => decide (tag ≠ 0)
  | .encoderLineChange _ _ => true
  | .protectSet tag _ _ _ _ _ _ sensors => decide (tag ≠ 0) && decide (sensors.length = 6)
  | .protectRead tag _ | .zoneAmp tag _ | .faultClear tag _ => decide (tag ≠ 0)
  | .spacingTimerExpiry | .settleTimerExpiry _ _ | .readbackCheck _ _ | .faultEdge _ | .retryTimerExpiry _ => true
  | .faultWindowExpiry _ | .pollTick _ => true
  | .measure tag _ _ _ _ _ => decide (tag ≠ 0)
  | .slotTurn | .ambientPhaseEnd | .burstEnd | .listenPhaseEnd | .measureComplete => true
  | .measureStop tag | .resultRead tag | .profileRead tag => decide (tag ≠ 0)
  | .profileWrite tag slots _ channels =>
    decide (tag ≠ 0) && decide (slots.length = 12) && decide (channels.length = 12)
  | .measureSet tag _ _ => decide (tag ≠ 0)
  | .tunerSet tag _ _ _ _ _ _ _ | .tune tag _ _ _ | .presetStore tag _ _ _ _ _ | .agcSet tag _ _ _ => decide (tag ≠ 0)
  | .seek tag _ | .listRead tag _ | .presetRecall tag _ | .presetClear tag _ => decide (tag ≠ 0)
  | .scan tag | .tunerStop tag | .tunerRead tag => decide (tag ≠ 0)
  | .hushTimerExpiry | .tunerSettleExpiry | .listeningPollExpiry => true
  | .relay tag _ _ _ write => decide (tag ≠ 0) && decide (write.length ≤ 236)
  | .auxRead tag _ | .auxSet tag _ => decide (tag ≠ 0)
  | .transactionEnd a =>
    match a with
    | .done bytes => decide (bytes.length ≤ 32)
    | .nackAddr _ => true
    | .nackData i => decide (i < 32)
  | .stuckDetect _ => true
  | .recoveryEnd l => decide (l.dataAfterPulse.length ≤ 9)
  | .holdTimerExpiry | .busRetryTimerExpiry => true

end Sys2Proof
end

