-- ==== Sys2Proof/Certificates/Slice0/Obligations.lean ====
section
/-! DEFINITION. The statements for the provers. A request is stated where it is answered at its arrival (`State.serves`,
`State.servesLong`); what happens to it otherwise is stated once for all requests. -/

open Sys2Proof Sys2Proof.Machine

/-! ## The queue of commands -/

/-- A step takes the command at the front of the queue and runs it on the state with the rest of the queue; with no command
waiting the part idles (the queue and the idle step are the model's own: log entry 1). -/
def Obligations.StepRunsTheFrontCommand : Prop :=
  ∀ (s : State) (c : Instr) (rest : List Instr),
    step { s with pending := c :: rest } = exec c { s with pending := rest } ∧ step { s with pending := [] } = .next { s with pending := [] }

/-- Every command, in every state, answers a next state, and leaves the queue of waiting commands as it is. The queue is the
model's (log entry 1), and so is what a command does whose event cannot happen in the state as it is (log entry 6). -/
def Obligations.EveryCommandAnswersNext : Prop :=
  ∀ (c : Instr) (s : State), ∃ t, exec c s = .next t ∧ t.pending = s.pending

/-! ## Frames on the control link (R177 to R181) -/

/-- The characters of the frame of a request, received in HUNTING, do what the request command does: every byte of every
field of every request reaches its handler through the receive assembler. A request command stands for the arrival of its
frame (log entry 7). -/
def Obligations.ReceivedFrameIsItsRequest : Prop :=
  ∀ (c : Instr) (s : State) (kind tag : Byte) (body : List Byte), c.wf = true → Instr.frame c = some (kind, tag, body) →
    s.link.assembler = .hunting → s.link.gapDeadline = none →
    exec (.frameReceived ((frameBytes kind tag body).map some)) s = exec c s

/-- What does not become a request: a frame with a wrong check byte, a length byte above 240, stray characters in HUNTING, a
damaged character inside a frame, a frame with tag 0, and a request that finds the queue full (R177, R178, R179). The
characters of FRAME_RECEIVED and the frame of BAD_KIND are the model's operands (log entry 7). -/
def Obligations.UnusableCharactersAreRejected : Prop :=
  (∀ (s : State) (kind tag check : Byte) (body : List Byte), s.link.assembler = .hunting → s.link.gapDeadline = none →
    body.length ≤ 240 → (BitVec.ofNat 8 body.length + kind + tag + body.sum + check : Byte) ≠ 0 →
    exec (.frameReceived (((0xC5 :: BitVec.ofNat 8 body.length :: kind :: tag :: body) ++ [check]).map some)) s
      = .next (emit .link [0, 2, 1, kind, 1, tag]
          (s.onLink fun l => { l with counters := { l.counters with rejCheck := min (l.counters.rejCheck + 1) 65535 } })))
  ∧ (∀ (s : State) (n : Byte), s.link.assembler = .hunting → s.link.gapDeadline = none → 240 < n.toNat →
    exec (.frameReceived [some 0xC5, some n]) s
      = .next (emit .link [0, 0, 0, 0, 0, 0]
          (s.onLink fun l => { l with counters := { l.counters with rejLength := min (l.counters.rejLength + 1) 65535 } })))
  ∧ (∀ (s : State) (c : Option Byte), s.link.assembler = .hunting → c ≠ some 0xC5 →
    exec (.frameReceived [c]) s
      = .next (s.onLink fun l => { l with counters := { l.counters with stray := min (l.counters.stray + 1) 65535 } }))
  ∧ (∀ (s : State), s.link.assembler ≠ .hunting → exec (.frameReceived [none]) s = .next s)
  ∧ (∀ (s : State) (kind : Byte) (body : List Byte), body.length ≤ 240 →
    exec (.badKind 0 kind body) s
      = .next (emit .link [0, 3, 1, kind, 1, 0]
          (s.onLink fun l => { l with counters := { l.counters with rejTag := min (l.counters.rejTag + 1) 65535 } })))
  ∧ (∀ (s : State) (tag kind : Byte) (body : List Byte), tag ≠ 0 → body.length ≤ 240 → s.link.requests.length = 8 →
    exec (.badKind tag kind body) s
      = .next (emit .link [0, 4, 1, kind, 1, tag]
          (s.onLink fun l => { l with counters := { l.counters with rejFull := min (l.counters.rejFull + 1) 65535 } })))

/-- The expiry of the gap timer rejects the frame that is being received, with the kind and the tag as far as they were
taken, and returns the assembler to HUNTING; in HUNTING no gap timer runs (R177, R178). The expiry says that its time has
come on the model's clock (log entry 6). -/
def Obligations.GapExpiryRejectsTheFrame : Prop :=
  (∀ (s : State) (deadline : Nat), s.nothingDue → s.link.gapDeadline = some deadline → s.link.assembler ≠ .hunting →
    exec .gapTimerExpiry s
      = .next (emit .link
          (match s.link.assembler with
            | .tag _ kind => [0, 1, 1, kind, 0, 0]
            | .bodyCheck _ kind tag _ => [0, 1, 1, kind, 1, tag]
            | _ => [0, 1, 0, 0, 0, 0])
          ({ s with now := max s.now deadline }.onLink fun l =>
            { l with
              assembler := .hunting, gapDeadline := none
              counters := { l.counters with rejGap := min (l.counters.rejGap + 1) 65535 } })))
  ∧ ∀ (s : State), s.link.assembler = .hunting → exec .gapTimerExpiry s = .next s

/-- A request that cannot be dispatched at its arrival joins the queue; one of an unknown kind is answered BAD_KIND; one of
a known kind with a body of another length is answered BAD_LENGTH, and nothing else changes (R179, R180, R195, R196).
BAD_KIND carries any request frame (log entry 7). -/
def Obligations.RequestsWaitOrAreRefusedByForm : Prop :=
  ∀ (s : State) (tag kind : Byte) (body : List Byte), tag ≠ 0 → body.length ≤ 240 →
    (∀ oldest : Request, (s.link.requests ++ [(⟨kind, tag, body⟩ : Request)]).head? = some oldest → s.link.requests.length < 8 →
      s.link.restarting = true ∨ placesUsed .reply s.link.outbound = 8 ∨ (oldest.kind ∈ longKinds ∧ completionPlaces s = 4) →
      exec (.badKind tag kind body) s = .next (s.onLink fun l => { l with requests := l.requests ++ [⟨kind, tag, body⟩] }))
    ∧ (s.serves tag → kind ∉ bodyLengths.map (·.1) → kind ≠ 0x58 →
      exec (.badKind tag kind body) s = .next (s.taken.enqueue ⟨.reply, 0xFF, tag, [0x12, kind]⟩))
    ∧ (∀ n, s.serves tag → (kind ∈ longKinds → completionPlaces s < 4) → (kind, n) ∈ bodyLengths → body.length ≠ n →
      exec (.badKind tag kind body) s = .next (s.taken.enqueue ⟨.reply, kind + 0x80, tag, [0x13]⟩))
    ∧ (s.servesLong tag → kind = 0x58 → (body.length < 4 ∨ body.length ≠ 4 + (body.getD 3 0).toNat) →
      exec (.badKind tag kind body) s = .next (s.taken.enqueue ⟨.reply, 0xD8, tag, [0x13]⟩))

/-- A sent frame has gone with its start, length and check bytes; it leaves the queue, is counted, and frees its place:
NOTICES_LOST takes a freed notice place when notices were lost, the requests that wait are dispatched, the oldest first, while
a reply place is free, and for a long kind a completion place, each answered as at an arrival, and after the reply of a RESTART
every block is reset. And what the creation of a notice does in every block: discarded when its class is off in the mask, queued
while fewer than sixteen notice places are in use, dropped and counted otherwise (R180, R181, R182, R183, R189, R193). The soft reset after the RESTART reply
keeps the remembered LINK_RATE (log entry 7); with no frame to send the event cannot happen and changes nothing (log entry
6). -/
def Obligations.SentFrameFreesItsPlace : Prop :=
  ∀ (s : State),
    let counted (sp : Space) (c : LinkCounters) : LinkCounters :=
      if sp = .reply then { c with repliesSent := min (c.repliesSent + 1) 65535 }
      else { c with noticesSent := min (c.noticesSent + 1) 65535 }
    let left (f : Frame) (rest : List Frame) : State :=
      (s.onLink fun l => { l with outbound := rest, counters := counted f.space l.counters }).onPins fun p =>
        let summed : List Byte := BitVec.ofNat 8 f.body.length :: f.kind :: f.tag :: f.body
        { p with sent := 0xC5 :: summed ++ [-summed.sum] }
    (s.link.outbound = [] → exec .frameSent s = .next s)
    ∧ (∀ (f : Frame) (rest : List Frame), s.link.outbound = f :: rest →
      let last : Prop := s.link.restarting = true ∧ f.space = .reply ∧ f.kind = 0x85 ∧ f.body = [0x00]
      (last → exec .frameSent s = exec (.softReset s.pins.linkRateHigh) s)
      ∧ (¬last → f.space ≠ .event ∨ s.link.lost = 0 → exec .frameSent s = .next (dispatchAll (left f rest)))
      ∧ (¬last → f.space = .event → s.link.lost ≠ 0 →
        exec .frameSent s = .next (dispatchAll
          (((left f rest).enqueue ⟨.event, 0xE7, 0, 1 :: u16 s.link.lost⟩).onLink fun l => { l with lost := 0 })))
      ∧ (∀ r : Request, ¬last → f.space = .reply → s.link.requests = [r] → r.tag ≠ 0 → r.body.length ≤ 240 →
        exec .frameSent s = exec (.badKind r.tag r.kind r.body) ((left f rest).onLink fun l => { l with requests := [] })))
    ∧ (let places (sp : Space) : Nat := (s.link.outbound.filter fun f => decide (f.space = sp)).length
      let held (busy : Prop) [Decidable busy] : Nat := if busy then 1 else 0
      let mayGo (r : Request) : Prop :=
        s.link.restarting = false ∧ places .reply < 8 ∧ (r.kind ∈ longKinds → completionPlaces s < 4)
      let popped (more : List Request) : State := s.taken.onLink fun l => { l with requests := more }
      (∀ sp, placesUsed sp s.link.outbound = places sp)
      ∧ completionPlaces s = places .completion + held (s.link.wakeTag ≠ none) + held (s.link.standbyTag ≠ none)
        + held (s.tuner.opTag ≠ none) + held (s.measure.run ≠ none) + held (s.bus.relayTag ≠ none)
      ∧ ((∀ oldest : Request, s.link.requests.head? = some oldest → ¬mayGo oldest) → dispatchAll s = s)
      ∧ (∀ (oldest : Request) (more : List Request), s.link.requests = oldest :: more → mayGo oldest →
        let u := takeRequest oldest (popped more)
        dispatchAll s = dispatchAll u ∧ u.link.requests = more
        ∧ ∃ body, u.link.outbound.take (s.link.outbound.length + 1) = s.link.outbound
          ++ [⟨.reply, if oldest.kind ∈ bodyLengths.map (·.1) ∨ oldest.kind = 0x58 then oldest.kind + 0x80 else 0xFF, oldest.tag,
            body⟩])
      ∧ (∀ r : Request, s.link.requests = [] → mayGo r → r.tag ≠ 0 → r.body.length ≤ 240 →
        exec (.badKind r.tag r.kind r.body) s = .next (takeRequest r s.taken))
      ∧ ((∀ r ∈ s.link.requests, r.kind ∉ bodyLengths.map (·.1) ∧ r.kind ≠ 0x58) → s.link.restarting = false →
        let n := min s.link.requests.length (8 - places .reply)
        dispatchAll s = s.onLink fun l =>
          { l with
            requests := l.requests.drop n, outbound := l.outbound ++ (l.requests.take n).map fun r => ⟨.reply, 0xFF, r.tag, [0x12, r.kind]⟩
            counters := { l.counters with taken := if n = 0 then l.counters.taken else min (l.counters.taken + n) 65535 } }))
    ∧ ∀ (c : NoticeClass) (body : List Byte),
      let bit : Nat := match c with
        | .port => 0
        | .route => 1
        | .tuner => 2
        | .protect => 3
        | .measure => 4
        | .aux => 5
        | .link => 6
      let events := (s.link.outbound.filter fun f => decide (f.space = .event)).length
      (s.link.mask.getLsbD bit = false → emit c body s = s)
      ∧ (s.link.mask.getLsbD bit = true → events < 16 →
        emit c body s = s.onLink fun l =>
          { l with outbound := l.outbound ++ [⟨.event, 0xE1 + BitVec.ofNat 8 bit, 0, body⟩] })
      ∧ (s.link.mask.getLsbD bit = true → 16 ≤ events →
        emit c body s = s.onLink fun l =>
          { l with
            lost := min (l.lost + 1) 65535
            counters := { l.counters with dropped := min (l.counters.dropped + 1) 65535 } })

/-! ## Resets, identification and the operating states (chapter 9) -/

/-- A hard reset, at power-up or at the RESET pin, gives every field of every block the value its chapter states. The encoder
lines are inputs and stay, the model's clock starts again, and the counter of the free values and the queue of commands go on
(log entries 1, 5 and 6); the values that no chapter states are the model's (log entry 5). -/
def Obligations.HardResetGivesEveryBlockItsValues : Prop :=
  ∀ (s : State) (cause : HardCause) (high : Bool), ∃ t, exec (.hardReset cause high) s = .next t
    ∧ t.link = {
        assembler := .hunting, gapDeadline := none, requests := []
        outbound := [⟨.event, 0xE7, 0, [2, match cause with
          | .power => 0
          | .pin => 1, 3]⟩]
        restarting := false, opState := .standby
        cause := match cause with
          | .power => .power
          | .pin => .pin
        rateHigh := high, resetAt := 0, quietDeadline := none, lost := 0, mask := 0x7F, wakeTag := none, standbyTag := none
        counters := ⟨0, 0, 0, 0, 0, 0, 0, 0, 0, 0⟩ }
    ∧ completionPlaces t = 0
    ∧ (∀ p, t.port p = ⟨false, .off, 0, 0, 0, 0, .unknown, 0, .none, false, 0, false, 0, 0, 128, 128⟩)
    ∧ (∀ i, t.source i = ⟨false, 0, 0, 2, [.fl, .fr], 0, 0, false, false, .auto⟩)
    ∧ (∀ r, t.route r = {
        state := .silent, selected := none, pending := none, purpose := none, reason := none, degraded := false
        limited := false, effMode := none, relayoutDue := false, conv := ⟨.idle, none, [], [], 0, 0, 0⟩ })
    ∧ t.render = {
        requested := t.render.inForce, inForce := t.render.inForce, present := [0, 1], zoneFeed := false, bass := []
        attached := none, override := none, modeDue := false, lanes := t.render.lanes, feeds := t.render.feeds
        zoneMix := t.render.zoneMix, energySum := 0, energyDiff := 0, steerC := 8192, steerS := 8192, steerRate := 4
        blockSum := 0, blockDiff := 0 }
    ∧ t.render.inForce.lfeToMains = false
    ∧ (∀ i : Fin 12, t.render.inForce.slots.get i = if i = 0 then ⟨.fl, some (.large, 80)⟩
        else if i = 1 then ⟨.fr, some (.large, 80)⟩ else ⟨.unassigned, none⟩)
    ∧ (∀ i : Fin 12, (∀ k, (t.render.lanes.get k).get i = 0) ∧ ∀ k, (t.render.feeds.get k).get i = 0)
    ∧ (∀ k, t.render.zoneMix.get k = (0, 0))
    ∧ (∀ i, t.channel i = {
        active := ⟨300, 0, false⟩, pending := ⟨300, 0, false⟩, marked := false, target := -1000, current := -1000
        redelay := false, allocated := 0, committed := 0, coef := 0, early := [], line := [] })
    ∧ t.gain = {
        channels := t.gain.channels, zoneTarget := -1000, zoneCurrent := -1000, zoneCoef := 0, zoneEarly := [], gone := 0
        mainVolume := -400, zoneVolume := -400, mainMute := false, zoneMute := false, downStep := 10, upStep := 5, userLip := 0
        mainTrim := 0, mainLip := 0, zoneTrim := 0, lipFrames := 0, demand := 0, zoneAssigned := false, burst := none
        encoder := ⟨false, false, false, 0, 0⟩ }
    ∧ (∀ g, t.group g = {
        state := .off, cause := .none, faultCount := 0, windowStart := none, attenuation := 0, reported := 0, sensor := none
        lastTemp := none, failRun := 0, sensorLost := false, coolSeen := false, needed := decide (g = 0), currentFaults := 0
        thermalTrips := 0, pollFailures := 0, driven := false, settle := none, retry := none, window := none, readback := []
        debounceEnd := 0 })
    ∧ t.protect = {
        groups := t.protect.groups, settings := ⟨80, 100, 5, -120, 2, 3⟩, zoneRequested := false, zoneInForce := false
        startQueue := [], lastStart := none, spacing := none, startList := none, leftFinished := [], tick := none, lastPolled := none
        polling := none }
    ∧ t.measure = { run := none, latency := 24, correction := 0, results := t.measure.results }
    ∧ (∀ i, t.measure.results.get i = ⟨.empty, none, false⟩)
    ∧ t.tuner = {
        state := .off, op := none, band := .fm, frequency := 87500, mono := false, level := 0, quality := 0, stereo := false
        settings := ⟨100, 9, 30, 8, 40, 0, 0x60⟩, agcMode := .closed, agcA := 512, agcTarget := 60, failRun := 0, seek := none
        scan := none, fmList := [], amList := [], presets := t.tuner.presets, hush := none, settle := none, poll := none
        outstanding := none, deferred := none, opTag := none }
    ∧ (∀ k, t.tuner.presets.get k = none)
    ∧ t.bus = {
        state := .idle, fast := false, lineFast := false, moves := [], movesBefore := [], last := .relay, tunerSlot := none
        protectSlot := none, relaySlot := none, inProgress := none, hold := none, retry := none, retrying := false, nacks := 0, stucks := 0
        holdTimeouts := 0, relayTag := none, relayAddress := 0 }
    ∧ t.pins = {
        linkRateHigh := high, encA := s.pins.encA, encB := s.pins.encB, slots := t.pins.slots, zone := (0, 0), sent := [] }
    ∧ (∀ i, t.pins.slots.get i = 0)
    ∧ t.now = 0 ∧ t.free = s.free ∧ t.pending = s.pending

/-- A soft reset: what the RESTART keeps, and what returns to its value, field by field. The command acts when the RESTART
reply is the frame being sent, and nothing happens otherwise. (What the command stands for: log entries 6 and 7; the values
that no chapter states: log entry 5; the window start of a LATCHED group, which is cleared, the readback checks that are dropped
and the debounce period that ends: log entry 15; the stop that ends a transaction or a hold that is cut, and the record of the
sequence before it: log entry 18.) -/
def Obligations.SoftResetKeepsTheSettings : Prop :=
  (∀ (s : State) (high : Bool) (tag : Byte) (rest : List Frame), s.link.restarting = true →
    s.link.outbound = ⟨.reply, 0x85, tag, [0x00]⟩ :: rest →
    let l := s.render.requested
    let z := s.protect.zoneRequested
    let subwoofer (i : Fin 12) : Prop := (l.slots.get i).position = .sw1 ∨ (l.slots.get i).position = .sw2
    let present (i : Fin 12) : Prop := (l.slots.get i).position ≠ .unassigned ∧ ¬(z = true ∧ (i = 6 ∨ i = 7))
    let silent : Route := {
      state := .silent, selected := none, pending := none, purpose := none, reason := none, degraded := false
      limited := false, effMode := none, relayoutDue := false, conv := ⟨.idle, none, [], [], 0, 0, 0⟩ }
    ∃ t, exec (.softReset high) s = .next t
      ∧ t.link = {
          assembler := .hunting, gapDeadline := none, requests := []
          outbound := if s.link.mask.getLsbD 6 then [⟨.event, 0xE7, 0, [2, 2, 3]⟩] else []
          restarting := false, opState := .standby, cause := .restart, rateHigh := high, resetAt := s.now
          quietDeadline := none, lost := 0, mask := s.link.mask, wakeTag := none, standbyTag := none
          counters := ⟨0, 0, 0, 0, 0, 0, 0, 0, 0, 0⟩ }
      ∧ completionPlaces t = 0
      ∧ (∀ p, t.port p = ⟨false, .off, 0, 0, 0, 0, .unknown, 0, .none, false, 0, false, 0, 0, (s.port p).offsetTrim,
          (s.port p).gainTrim⟩)
      ∧ t.sources = s.sources ∧ t.main = silent ∧ t.zone = silent
      ∧ t.render = {
          requested := l, inForce := l, present := t.render.present, zoneFeed := z, bass := t.render.bass
          attached := none, override := none, modeDue := false, lanes := t.render.lanes, feeds := t.render.feeds
          zoneMix := t.render.zoneMix, energySum := 0, energyDiff := 0, steerC := 8192, steerS := 8192, steerRate := 4
          blockSum := 0, blockDiff := 0 }
      ∧ (∀ i, i ∈ t.render.present ↔ present i)
      ∧ (∀ i, (t.render.bass.filter fun e => decide (e.slot = i)).length
          = if (i ∈ t.render.present ∧ ((l.slots.get i).bass.map (·.1)) = some .small)
              ∧ ((∃ w ∈ t.render.present, subwoofer w) ∨ (i ≠ 0 ∧ i ≠ 1)) then 1 else 0)
      ∧ (∀ e ∈ t.render.bass, e.first = ⟨0, 0, 0, 0⟩ ∧ e.second = ⟨0, 0, 0, 0⟩
          ∧ (l.slots.get e.slot).bass = some (.small, e.crossover)
          ∧ if ∃ w ∈ t.render.present, subwoofer w then ∀ w, w ∈ e.receivers ↔ (w ∈ t.render.present ∧ subwoofer w)
            else e.receivers = [0, 1])
      ∧ (∀ i : Fin 12, (∀ k, (t.render.lanes.get k).get i = 0) ∧ ∀ k, (t.render.feeds.get k).get i = 0)
      ∧ (∀ k, t.render.zoneMix.get k = (0, 0))
      ∧ (∀ most : Nat, (∃ i ∈ t.render.present, (s.channel i).active.distance = most) →
          (∀ i ∈ t.render.present, (s.channel i).active.distance ≤ most) →
          ∀ i ∈ t.render.present,
            ((t.channel i).allocated : Int) = roundDiv (48000 * (most - (s.channel i).active.distance)) 34300)
      ∧ (∀ i, t.channel i = {
          active := (s.channel i).active, pending := (s.channel i).active, marked := false, target := -1000, current := -1000
          redelay := false, allocated := if i ∈ t.render.present then (t.channel i).allocated else 0
          committed := (t.channel i).allocated, coef := 0, early := [], line := [] })
      ∧ t.gain = {
          channels := t.gain.channels, zoneTarget := -1000, zoneCurrent := -1000, zoneCoef := 0, zoneEarly := [], gone := 0
          mainVolume := -400, zoneVolume := -400, mainMute := false, zoneMute := false, downStep := 10, upStep := 5
          userLip := 0, mainTrim := 0, mainLip := 0, zoneTrim := 0, lipFrames := 0
          demand := (t.render.present.map fun i => (t.channel i).allocated).sum, zoneAssigned := z, burst := none
          encoder := ⟨false, false, false, 0, 0⟩ }
      ∧ (∀ g : Fin 6, let latched : Bool := decide ((s.group g).state = .latched)
          t.group g = {
            state := if latched then .latched else .off, cause := if latched then (s.group g).cause else .none
            faultCount := if latched then (s.group g).faultCount else 0, windowStart := none
            attenuation := if latched then (s.group g).attenuation else 0
            reported := if latched then (s.group g).attenuation else 0, sensor := (s.group g).sensor
            lastTemp := none, failRun := 0, sensorLost := false, coolSeen := false
            needed := decide ((∃ i ∈ t.render.present, i.1 / 2 = g.1) ∨ (g = 3 ∧ z = true)), currentFaults := 0
            thermalTrips := 0, pollFailures := 0, driven := false, settle := none, retry := none, window := none
            readback := [], debounceEnd := 0 })
      ∧ t.protect = {
          groups := t.protect.groups, settings := s.protect.settings, zoneRequested := z, zoneInForce := z
          startQueue := [], lastStart := none, spacing := none, startList := none, leftFinished := [], tick := none, lastPolled := none
          polling := none }
      ∧ t.measure = { run := none, latency := 24, correction := 0, results := t.measure.results }
      ∧ (∀ i, t.measure.results.get i
          = if (s.measure.results.get i).status = .pending then ⟨.skipped, none, false⟩ else s.measure.results.get i)
      ∧ t.tuner = { s.tuner with
          state := .off, op := none, level := 0, quality := 0, stereo := false, failRun := 0, seek := none, scan := none
          hush := none, settle := none, poll := none, outstanding := none, deferred := none, opTag := none }
      ∧ t.bus = {
          state := .idle, fast := s.bus.fast, lineFast := false
          moves := if s.bus.state = .active ∨ s.bus.state = .held then s.bus.moves ++ [.stop] else []
          movesBefore := [], last := .relay, tunerSlot := none, protectSlot := none, relaySlot := none, inProgress := none
          hold := none, retry := none, retrying := false, nacks := 0, stucks := 0, holdTimeouts := 0, relayTag := none, relayAddress := 0 }
      ∧ t.pins = {
          linkRateHigh := high, encA := s.pins.encA, encB := s.pins.encB, slots := t.pins.slots, zone := (0, 0)
          sent := [0xC5, 1, 0x85, tag, 0x00, -(0x86 + tag)] }
      ∧ (∀ i, t.pins.slots.get i = 0)
      ∧ t.now = s.now ∧ t.free = s.free ∧ t.pending = s.pending)
  ∧ ∀ (s : State) (high : Bool),
    (s.link.restarting = false ∨ s.link.outbound = []
      ∨ ∃ (f : Frame) (rest : List Frame), s.link.outbound = f :: rest
        ∧ (f.space ≠ .reply ∨ f.kind ≠ 0x85 ∨ f.body ≠ [0x00])) →
    exec (.softReset high) s = .next s

/-- IDENT answers with the part, and changes nothing. -/
def Obligations.IdentNamesThePart : Prop :=
  ∀ (s : State) (tag : Byte), s.serves tag →
    exec (.ident tag) s = .next (s.replied 0x01 tag .ok
      [0x4B, 0x4C, 0x49, 0x4D, 0x42, 0x41, 0x52, 0x4F, 0xEC, 0x04, 3, 10, 12, 12, 6, 30])

/-- PART_READ and LINK_STATS report the link unit, NOTICE_MASK replaces the mask (R191 to R193). The clock, the place of the
reply and the forms of the link rate and of the operation flags, and what the completion places and the four flags count are
the model's (log entries 6, 8 and 13). -/
def Obligations.LinkRequestsReportAndSet : Prop :=
  ∀ (s : State) (tag : Byte), s.serves tag →
    (exec (.partRead tag) s = .next (s.replied 0x02 tag .ok
      ([opStateCode s.link.opState, State.causeCode s.link.cause] ++ u32 (if s.link.rateHigh then 921600 else 115200)
        ++ u16 (min ((s.now - s.link.resetAt) / 1000) 65535)
        ++ (match s.link.quietDeadline with
          | some d => [1, BitVec.ofNat 8 (d - s.now)]
          | none => [0, 0])
        ++ [0, BitVec.ofNat 8 (placesUsed .reply s.link.outbound + 1), BitVec.ofNat 8 (completionPlaces s),
            BitVec.ofNat 8 (placesUsed .event s.link.outbound),
            if s.bus.relayTag = none then 0 else 1, if s.tuner.opTag = none then 0 else 1,
            if s.measure.run = none then 0 else 1, if s.link.wakeTag = none ∧ s.link.standbyTag = none then 0 else 1]
        ++ u16 s.link.lost ++ [s.link.mask.setWidth 8])))
    ∧ (∀ classes : Byte,
      (128 ≤ classes.toNat →
        exec (.noticeMask tag classes) s = .next (s.replied 0x06 tag .badValue [s.link.mask.setWidth 8]))
      ∧ (classes.toNat < 128 →
        exec (.noticeMask tag classes) s
          = .next ((s.onLink fun l => { l with mask := classes.setWidth 7 }).replied 0x06 tag .ok [classes])))
    ∧ (∀ clear : Byte,
      let c := s.link.counters
      let figures := u16 (min (c.taken + 1) 65535) ++ u16 c.stray ++ u16 c.rejLength ++ u16 c.rejGap ++ u16 c.rejCheck
        ++ u16 c.rejTag ++ u16 c.rejFull ++ u16 c.repliesSent ++ u16 c.noticesSent ++ u16 c.dropped
      (clear = 0 → exec (.linkStats tag clear) s = .next (s.replied 0x07 tag .ok figures))
      ∧ (clear = 1 → exec (.linkStats tag clear) s
          = .next ((s.replied 0x07 tag .ok figures).onLink fun l => { l with counters := ⟨0, 0, 0, 0, 0, 0, 0, 0, 0, 0⟩ }))
      ∧ (clear ≠ 0 → clear ≠ 1 → exec (.linkStats tag clear) s = .next (s.replied 0x07 tag .badValue figures)))

/-- WAKE in STANDBY starts the needed groups: the part is WAKING, the poll tick and the start list begin, the lowest-numbered
needed group that is OFF is started and the others wait in the start queue for the spacing timer, or all wait while the 50 ms of
an earlier start run; nothing outside the link and the protection unit changes. With every needed group LATCHED the part is
RUNNING at once, and the completion names the needed groups that are not ON. In the other states WAKE changes nothing (R96, R98,
R185, R187); the started groups have their PROTECT notices (R110). The clock, the place of the reply and the spacing from an
earlier start are the model's (log entries 6, 8 and 15). -/
def Obligations.WakeStartsTheGroups : Prop :=
  ∀ (s : State) (tag : Byte), s.servesLong tag →
    (s.link.opState = .standby → (∃ g, (s.group g).needed = true ∧ ((s.group g).state = .off ∨ (s.group g).state = .powering)) →
      let starts (g : Fin 6) : Prop := (s.group g).needed = true ∧ (s.group g).state = .off
      let free : Prop := s.protect.spacing = none ∧ ∀ l, s.protect.lastStart = some l → l + 50 ≤ s.now
      ∃ t notices, exec (.wake tag) s = .next t
        ∧ t = { s with link := t.link, protect := t.protect }
        ∧ t.link = (s.tellsGroups t ((s.onLink fun l => { l with opState := .waking, wakeTag := some tag }).replied 0x03 tag .started [1])).link
        ∧ t.link.opState = .waking ∧ t.link.wakeTag = some tag ∧ t.protect.tick = some (s.now + 100)
        ∧ t.link.outbound = s.link.outbound ++ ⟨.reply, 0x83, tag, [0x01, 1]⟩ :: notices ∧ (∀ f ∈ notices, f.space = .event)
        ∧ (∃ l, t.protect.startList = some l ∧ ∀ g, (∃ done, (g, done) ∈ l) ↔
            ((s.group g).needed = true ∧ (s.group g).state ≠ .latched))
        ∧ (∀ g, ¬starts g → t.group g = s.group g ∧ (g ∈ t.protect.startQueue ↔ g ∈ s.protect.startQueue))
        ∧ (¬free → ∀ g, starts g → t.group g = s.group g ∧ g ∈ t.protect.startQueue)
        ∧ (free → ∀ g, starts g → (∀ h < g, ¬starts h) →
            (t.group g).state = .powering ∧ (t.group g).cause = .none ∧ (t.group g).driven = true
            ∧ (t.group g).settle = some (s.now + 200) ∧ (t.group g).retry = none ∧ g ∉ t.protect.startQueue
            ∧ t.protect.lastStart = some s.now
            ∧ (∀ h, h ≠ g → starts h → t.group h = s.group h ∧ h ∈ t.protect.startQueue)
            ∧ t.protect.spacing = if ∃ h, h ≠ g ∧ starts h then some (s.now + 50) else none)
        ∧ ((∀ g, ¬starts g) → t.protect.spacing = s.protect.spacing)
        ∧ (¬free → (∃ g, starts g) → t.protect.spacing = match s.protect.spacing with
            | some d => some d
            | none => s.protect.lastStart.map (· + 50)))
    ∧ (s.link.opState = .standby → (∀ g, (s.group g).needed = true → (s.group g).state = .latched) →
      ∃ t, exec (.wake tag) s = .next t ∧ t.link.opState = .running ∧ t.link.wakeTag = none
        ∧ (s.main.relayoutDue = false → t.protect.groups = s.protect.groups)
        ∧ t.protect.startList = none ∧ t.protect.tick = some (s.now + 100)
        ∧ (⟨.completion, 0xE0, tag, [0x03, if ∀ g, (s.group g).needed = false then 0x00 else 0x03,
            BitVec.ofNat 8 (maskOf (allGroups.filter fun g => (s.group g).needed))]⟩ : Frame) ∈ t.link.outbound
        ∧ (s.bus.state ≠ .busDown → t.tuner.state = .tuning ∧ t.tuner.frequency = s.tuner.frequency))
    ∧ (s.link.opState = .running → exec (.wake tag) s = .next (s.replied 0x03 tag .ok [2]))
    ∧ (s.link.opState = .waking → exec (.wake tag) s = .next (s.replied 0x03 tag .busy [1]))
    ∧ (s.link.opState = .quieting → exec (.wake tag) s = .next (s.replied 0x03 tag .busy [3]))

/-- STANDBY fades the routes, turns the tuner OFF, completes a SEEK or a SCAN in flight ABORTED and aborts a measurement run:
its unprobed slots are SKIPPED, its burst is withdrawn, and MAIN is given back and fades, whichever of the abort and the quiet
event is taken first; the delay lines hold silence when MAIN leaves MEASURE. With both routes SILENT the part is in STANDBY at
the same event; a WAKE in flight completes ABORTED. In STANDBY and QUIETING it changes nothing (R34, R36, R81, R130, R142, R148,
R150, R186, R188, R198). The clock and the place of the reply are the model's (log entries 6 and 8), so are the entry count,
LIST_FULL and the dropped count of an aborted SCAN and the group mask of an aborted WAKE (log entry 13), and which event is
first is free (log entry 4). -/
def Obligations.StandbyQuietsThePart : Prop :=
  ∀ (s : State) (tag : Byte), s.servesLong tag →
    let x := s.tuner
    let searchEnds (frames : List Frame) : Prop := ∀ w : Byte, x.opTag = some w →
      (x.state = .seeking ∨ (x.state = .hushing ∧ ∃ up, x.op = some (.seek up)) →
        (⟨.completion, 0xE0, w, [0x4A, 0x10, bandCode x.band] ++ u32 x.frequency
          ++ [BitVec.ofNat 8 x.level, BitVec.ofNat 8 x.quality, if x.stereo then 1 else 0]⟩ : Frame) ∈ frames)
      ∧ (x.state = .scanning ∨ (x.state = .hushing ∧ x.op = some .scan) →
        (⟨.completion, 0xE0, w, [0x4B, 0x10, bandCode x.band, BitVec.ofNat 8 (x.list x.band).length,
          (match x.scan with
            | some work => if work.full then 1 else 0
            | none => 0),
          match x.scan with
            | some work => BitVec.ofNat 8 work.dropped
            | none => 0]⟩ : Frame) ∈ frames)
    let ended : Prop := x.state = .seeking ∨ x.state = .scanning
      ∨ (x.state = .hushing ∧ (x.op = some .scan ∨ ∃ up, x.op = some (.seek up)))
    let turnedOff (t : State) : Prop := t.tuner = { x with
      state := .off, op := none, seek := none, scan := none, hush := none, poll := none, settle := none, deferred := none
      outstanding := x.outstanding.map fun o => (o.1, true), opTag := if ended then none else x.opTag }
    (s.link.opState = .running → s.measure.run = none →
      (∃ r, (s.route r).state = .playing ∨ (s.route r).state = .waiting ∨ (s.route r).state = .fadingOut) →
      ∃ t frames, exec (.standby tag) s = .next t
        ∧ t.link.opState = .quieting ∧ t.link.quietDeadline = some (s.now + 250) ∧ t.link.standbyTag = some tag
        ∧ t.link.outbound = s.link.outbound ++ ⟨.reply, 0x84, tag, [0x01, 3]⟩ :: frames ∧ (∀ f ∈ frames, f.space ≠ .reply)
        ∧ turnedOff t ∧ searchEnds frames
        ∧ (∀ r, (s.route r).state = .playing ∨ (s.route r).state = .waiting ∨ (s.route r).state = .fadingOut →
            (t.route r).state = .fadingOut ∧ (t.route r).purpose = some .standby ∧ (t.route r).selected = (s.route r).selected
              ∧ (t.route r).conv = (s.route r).conv)
        ∧ t.protect.startQueue = [] ∧ t.protect.spacing = none ∧ t.protect.startList = none ∧ t.protect.leftFinished = []
        ∧ t.protect.groups = s.protect.groups ∧ t.ports = s.ports ∧ t.sources = s.sources ∧ t.render = s.render
        ∧ t.gain = s.gain ∧ t.measure = s.measure ∧ t.bus = s.bus ∧ t.pins = s.pins ∧ t.now = s.now ∧ t.free = s.free)
    ∧ (∀ run : Run, s.link.opState = .running → s.measure.run = some run → run.state ≠ .restoring → s.main.relayoutDue = false →
      ∃ t frames, exec (.standby tag) s = .next t
        ∧ t.link.outbound = s.link.outbound ++ ⟨.reply, 0x84, tag, [0x01, 3]⟩ :: frames ∧ (∀ f ∈ frames, f.space ≠ .reply)
        ∧ turnedOff t ∧ searchEnds frames ∧ t.gain.burst = none
        ∧ t.measure = { s.measure with
            run := some { run with state := .restoring, outcome := .aborted, probe := none, todo := [] }
            results := t.measure.results }
        ∧ (∀ i, t.measure.results.get i
            = if i ∈ run.todo ∨ run.probe.map (·.slot) = some i then ⟨.skipped, none, false⟩ else s.measure.results.get i)
        ∧ (s.main.state = .fadingOut → t.main.state = .fadingOut ∧ t.main.purpose = some .standby)
        ∧ (s.main.state = .measure → s.linesSilent t)
        ∧ (s.main.state = .measure →
            (t.main.state = .fadingOut ∧ t.main.purpose = some .standby)
            ∨ (t.main.state = .silent ∧ t.main.selected = none ∧ s.main.pending.getD s.main.selected = none))
        ∧ (t.main.state = .fadingOut → t.link.opState = .quieting ∧ t.link.quietDeadline = some (s.now + 250)
            ∧ t.link.standbyTag = some tag)
        ∧ t.ports = s.ports ∧ t.sources = s.sources ∧ t.bus = s.bus ∧ t.pins = s.pins ∧ t.now = s.now)
    ∧ (s.link.opState = .running ∨ s.link.opState = .waking → s.measure.run = none →
      s.main.state = .silent → s.zone.state = .silent →
      ∃ t frames, exec (.standby tag) s = .next t ∧ t.link.opState = .standby ∧ t.link.quietDeadline = none
        ∧ t.link.wakeTag = none ∧ t.link.standbyTag = none
        ∧ t.link.outbound = s.link.outbound ++ ⟨.reply, 0x84, tag, [0x01, 3]⟩ :: frames ∧ (∀ f ∈ frames, f.space ≠ .reply)
        ∧ ⟨.completion, 0xE0, tag, [0x04, 0x00]⟩ ∈ frames
        ∧ (∀ wake, s.link.wakeTag = some wake → (⟨.completion, 0xE0, wake, [0x03, 0x10,
            BitVec.ofNat 8 (maskOf (allGroups.filter fun g => (s.group g).needed && decide ((s.group g).state ≠ .on)))]⟩ : Frame)
            ∈ frames)
        ∧ turnedOff t ∧ searchEnds frames
        ∧ (∀ g, (t.group g).state = .off ∨ (t.group g).state = .latched)
        ∧ t.protect.tick = none ∧ t.protect.startQueue = []
        ∧ t.main.state = .silent ∧ t.zone.state = .silent ∧ t.ports = s.ports ∧ t.sources = s.sources ∧ t.bus = s.bus)
    ∧ (s.link.opState = .standby → exec (.standby tag) s = .next (s.replied 0x04 tag .ok [0]))
    ∧ (s.link.opState = .quieting → exec (.standby tag) s = .next (s.replied 0x04 tag .busy [3]))

/-- RESTART is answered OK in every operating state, and from its reply on nothing is dispatched; the quiet timer silences
the routes, and the part is in STANDBY with its groups OFF or LATCHED (R36, R99, R186, R189). (The clock: log entry 6.) -/
def Obligations.RestartAndQuietTimer : Prop :=
  (∀ (s : State) (tag : Byte), s.serves tag →
    exec (.restart tag) s = .next ((s.onLink fun l => { l with restarting := true }).replied 0x05 tag .ok []))
  ∧ (∀ (s : State) (r : Request), s.link.restarting = true → canDispatch r s = false)
  ∧ (∀ (s : State) (deadline : Nat), s.link.opState = .quieting → s.link.quietDeadline = some deadline →
    s.main.state ≠ .measure → s.zone.state ≠ .measure → s.tuner.state ≠ .hushing →
    ∃ t frames, exec .quietTimerExpiry s = .next t
      ∧ t.link.opState = .standby ∧ t.link.quietDeadline = none ∧ t.link.standbyTag = none
      ∧ t.main.state = .silent ∧ t.zone.state = .silent ∧ t.main.conv.state = (if s.main.state = .silent then s.main.conv.state else .idle)
      ∧ (∀ g, (t.group g).state = .off ∨ (t.group g).state = .latched) ∧ t.protect.tick = none
      ∧ t.link.outbound = s.link.outbound ++ frames
      ∧ (∀ tag, s.link.standbyTag = some tag → ⟨.completion, 0xE0, tag, [0x04, 0x00]⟩ ∈ frames)
      ∧ t.now = max s.now deadline ∧ t.ports = s.ports ∧ t.sources = s.sources ∧ t.bus = s.bus ∧ t.tuner = s.tuner)
  ∧ ∀ (s : State), s.link.opState ≠ .quieting ∨ s.link.quietDeadline = none → exec .quietTimerExpiry s = .next s

/-! ## Ports (chapter 1) -/

/-- PORT_READ shows the record, and with the clear flag 1 the two counts are then 0; ADC_TRIM replaces the two trim codes of an
A or MIC port (R2, R21, R22, R196). That a port number out of range is answered before the clear flag is judged, and that the
trims of the ADC_TRIM reply are optional fields, are the model's choices (log entries 20 and 8). -/
def Obligations.PortReadAndTrims : Prop :=
  ∀ (s : State) (tag : Byte) (b x y : Byte), s.serves tag →
    (∀ p : Fin 10, b.toNat = p.1 + 1 →
      (x = 0 → exec (.portRead tag b x) s = .next (s.replied 0x11 tag .ok (portBytes p (s.port p))))
      ∧ (x = 1 → exec (.portRead tag b x) s
          = .next ((s.onPort p fun q => { q with clips := 0, slips := 0 }).replied 0x11 tag .ok (portBytes p (s.port p))))
      ∧ (x ≠ 0 → x ≠ 1 → exec (.portRead tag b x) s = .next (s.replied 0x11 tag .badValue (portBytes p (s.port p))))
      ∧ (6 ≤ p.1 → exec (.adcTrim tag b x y) s
          = .next ((s.onPort p fun q => { q with offsetTrim := x, gainTrim := y }).replied 0x12 tag .ok [b, 1, x, 1, y]))
      ∧ (p.1 < 6 → exec (.adcTrim tag b x y) s = .next (s.replied 0x12 tag .badValue [b, 0, 0, 0, 0])))
    ∧ (b = 0 ∨ 10 < b.toNat → exec (.portRead tag b x) s = .next (s.replied 0x11 tag .notFound [])
      ∧ exec (.adcTrim tag b x y) s = .next (s.replied 0x12 tag .notFound []))
    ∧ ∀ (p : Fin 10) (q : Port),
      portBytes p q = [flagCode q.enabled, lockCode q.lock] ++ u32 q.period ++ u32 q.high ++ u32 q.low
        ++ (if p.1 < 4 then 1 :: u16 q.bits else [0, 0, 0]) ++ [formatCode q.format, BitVec.ofNat 8 q.channels, rateCode q.rate]
        ++ (if p = 4 ∨ p = 5 then [1, flagCode q.nonAudio, 1, BitVec.ofNat 8 q.wordLength, 1, flagCode q.blockSeen]
          else [0, 0, 0, 0, 0, 0])
        ++ (if 6 ≤ p.1 then 1 :: u16 q.clips else [0, 0, 0]) ++ u16 q.slips
        ++ if 6 ≤ p.1 then [1, q.offsetTrim, 1, q.gainTrim] else [0, 0, 0, 0]

/-- PORT_SET starts and stops a port. An A or MIC port is LOCKED at once at 48 kHz, a D or S port is MEASURING; a stopped port
keeps its counts and its trims. A lock that this loses or gains acts on the routes. Where no route has the port selected or at
its converter, and for MIC no run is under way, the port, one reply and one PORT notice are all that changes (R4, R5, R15, R16,
R20, R26, R27, R30). That a port number out of range is answered before the enable field is judged is the model's choice (log
entry 20). The routes are stated outside HUSHING, for MIC without a run, and a gained lock without a re-layout point that is
due. -/
def Obligations.PortSetStartsAndStops : Prop :=
  ∀ (s : State) (tag b x : Byte), s.serves tag →
    (∀ p : Fin 10, b.toNat = p.1 + 1 →
      let started (q : Port) : Port :=
        if 6 ≤ p.1 then
          { q with enabled := true, lock := .locked, rate := .r48, format := .analog, channels := if p = 9 then 1 else 2 }
        else
          { q with
            enabled := true, lock := .measuring, period := 0, high := 0, low := 0, bits := 0, rate := .none
            format := .unknown, channels := 0, blockSeen := false }
      let stopped (q : Port) : Port :=
        ⟨false, .off, 0, 0, 0, 0, .unknown, 0, .none, false, 0, false, q.clips, q.slips, q.offsetTrim, q.gainTrim⟩
      (∀ on : Bool, x = (if on then 1 else 0) → (s.port p).enabled = on →
        exec (.portSet tag b x) s = .next (s.replied 0x10 tag .ok [b, lockCode (s.port p).lock]))
      ∧ (∀ on : Bool, x = (if on then 1 else 0) → (s.port p).enabled ≠ on →
        ∃ t, exec (.portSet tag b x) s = .next t
          ∧ t.ports = s.ports.set p (if on then started (s.port p) else stopped (s.port p))
          ∧ t.sources = s.sources ∧ t.now = s.now ∧ t.pins = s.pins
          ∧ t.link.outbound.take (s.link.outbound.length + 1)
            = s.link.outbound ++ [⟨.reply, 0x90, tag,
                [0x00, b, lockCode (if on then started (s.port p) else stopped (s.port p)).lock]⟩]
          ∧ (s.tuner.state ≠ .hushing → (p = 9 → s.measure.run = none) →
            (on = false → (s.port p).lock = .locked → s.losesLockAt t p)
            ∧ (on = true → 6 ≤ p.1 → (s.port p).lock ≠ .locked → s.main.relayoutDue = false → s.mayPlayAt t p))
          ∧ (s.portUnused p → (s.port p).lock ≠ (if on then started (s.port p) else stopped (s.port p)).lock →
            t = emit .port (portNoticeBytes 0 p (if on then started (s.port p) else stopped (s.port p)))
              ((s.onPort p fun q => if on then started q else stopped q).replied 0x10 tag .ok
                [b, lockCode (if on then started (s.port p) else stopped (s.port p)).lock])))
      ∧ (x ≠ 0 → x ≠ 1 → exec (.portSet tag b x) s = .next (s.replied 0x10 tag .badValue [b, lockCode (s.port p).lock])))
    ∧ (b = 0 ∨ 10 < b.toNat → exec (.portSet tag b x) s = .next (s.replied 0x10 tag .notFound []))

/-- A measurement window of a D or S port that is MEASURING or UNSUPPORTED classifies it: rate class, format and channels by
the counts, and LOCKED or UNSUPPORTED by R11. A lock that is gained attaches the routes that wait for it, outside HUSHING and
without a re-layout point that is due; without one no route changes. On a port that no route uses, nothing else changes but a
PORT notice when the lock state changes (R6 to R9, R11, R15, R16, R26, R27, R30). -/
def Obligations.WindowClassifiesThePort : Prop :=
  ∀ (s : State) (p : Fin 10) (high low edges : Nat), s.nothingDue → p.1 < 6 →
    (s.port p).lock = .measuring ∨ (s.port p).lock = .unsupported →
    let count := min (high + low) 4194303
    let nominal : List (RateClass × Nat) :=
      [(.r32, 49152), (.r44, 35665), (.r48, 32768), (.r88, 17833), (.r96, 16384), (.r176, 8916), (.r192, 8192)]
    ∃ t, exec (.measurementWindowComplete p high low edges) s = .next t
      ∧ (t.port p).period = count
      ∧ (∀ q, q ≠ p → t.port q = s.port q) ∧ t.sources = s.sources ∧ t.now = s.now ∧ t.pins = s.pins
      ∧ (∀ e ∈ nominal, 500 * ((count : Int) - e.2).natAbs ≤ e.2 → (t.port p).rate = e.1)
      ∧ ((∀ e ∈ nominal, ¬ 500 * ((count : Int) - e.2).natAbs ≤ e.2) → (t.port p).rate = .none)
      ∧ (p.1 < 4 →
        (t.port p).high = min high 4194303 ∧ (t.port p).low = min low 4194303
        ∧ (t.port p).bits = min ((edges + 32) / 64) 1023
        ∧ (2 * count ≤ 5 * min high 4194303 → 5 * min high 4194303 ≤ 3 * count → (t.port p).bits = 64 →
            (t.port p).format = .twoChannel ∧ (t.port p).channels = 2)
        ∧ (8 * min high 4194303 ≤ count → (t.port p).bits = 128 → (t.port p).format = .tdm4 ∧ (t.port p).channels = 4)
        ∧ (8 * min high 4194303 ≤ count → (t.port p).bits = 256 → (t.port p).format = .tdm8 ∧ (t.port p).channels = 8)
        ∧ (¬(2 * count ≤ 5 * min high 4194303 ∧ 5 * min high 4194303 ≤ 3 * count ∧ (t.port p).bits = 64) →
            ¬(8 * min high 4194303 ≤ count ∧ ((t.port p).bits = 128 ∨ (t.port p).bits = 256)) →
            (t.port p).format = .unknown ∧ (t.port p).channels = 0)
        ∧ (t.port p).lock = (if (t.port p).rate = .none ∨ (t.port p).format = .unknown then .unsupported else .locked))
      ∧ (4 ≤ p.1 →
        (t.port p).format = (if (t.port p).rate = .none then .unknown else .biphase)
        ∧ (t.port p).channels = (if (t.port p).rate = .none then 0 else 2)
        ∧ (t.port p).lock = (if (t.port p).rate = .none then .unsupported
            else if (s.port p).blockSeen then .locked else (s.port p).lock))
      ∧ ((t.port p).lock ≠ .locked → t.main = s.main ∧ t.zone = s.zone)
      ∧ ((t.port p).lock = .locked → s.tuner.state ≠ .hushing → s.main.relayoutDue = false → s.mayPlayAt t p)
      ∧ (s.portUnused p →
        t = if (t.port p).lock = (s.port p).lock then s.onPort p fun _ => t.port p
          else emit .port (portNoticeBytes 0 p (t.port p)) (s.onPort p fun _ => t.port p))

/-- A window of a LOCKED port whose count stays within 0.5 % of its class, with the same format and channels, keeps the lock;
any other takes it to MEASURING with its classification gone. A kept lock gives the converters on the port their new base step;
a lost one suspends them and, outside HUSHING, silences the routes of the port. In the other lock states no window is in
progress (R6, R12, R30, R39; an S port is held to the lock band of R7: log entry 9), and its end cannot happen and changes
nothing (log entry 6). -/
def Obligations.WindowKeepsOrBreaksTheLock : Prop :=
  (∀ (s : State) (p : Fin 10) (high low edges : Nat) (c : RateClass) (n : Nat), s.nothingDue → p.1 < 6 →
    (s.port p).lock = .locked → (s.port p).rate = c →
    (c, n) ∈ ([(.r32, 49152), (.r44, 35665), (.r48, 32768), (.r88, 17833), (.r96, 16384), (.r176, 8916), (.r192, 8192)]
      : List (RateClass × Nat)) →
    let count := min (high + low) 4194303
    let inBand : Prop := 200 * ((count : Int) - n).natAbs ≤ n
    let format := if p.1 < 4 then laneFormat count (min high 4194303) (min ((edges + 32) / 64) 1023) else (.biphase, 2)
    ∃ t, exec (.measurementWindowComplete p high low edges) s = .next t ∧ (t.port p).period = count
      ∧ (∀ q, q ≠ p → t.port q = s.port q) ∧ t.sources = s.sources ∧ t.now = s.now ∧ t.pins = s.pins
      ∧ (inBand ∧ format = ((s.port p).format, (s.port p).channels) →
          (t.port p).lock = .locked ∧ (t.port p).rate = c ∧ (t.port p).format = (s.port p).format
            ∧ (t.port p).channels = (s.port p).channels)
      ∧ (¬(inBand ∧ format = ((s.port p).format, (s.port p).channels)) →
          (t.port p).lock = .measuring ∧ (t.port p).rate = .none ∧ (t.port p).format = .unknown ∧ (t.port p).channels = 0
            ∧ (t.port p).blockSeen = false)
      ∧ ((t.port p).lock = .locked → ∀ r,
          let c := (s.route r).conv
          t.route r = { s.route r with
            conv := if c.input.map (·.port) = some p then { c with baseStep := (roundDiv 549755813888 count).toNat } else c })
      ∧ ((t.port p).lock ≠ .locked → s.tuner.state ≠ .hushing → s.losesLockAt t p)
      ∧ (s.portUnused p →
        t = if (t.port p).lock = .locked then s.onPort p fun _ => t.port p
          else emit .port (portNoticeBytes 0 p (t.port p)) (s.onPort p fun _ => t.port p)))
  ∧ ∀ (s : State) (p : Fin 10) (high low edges : Nat), s.nothingDue →
    6 ≤ p.1 ∨ (s.port p).lock = .off ∨ (s.port p).lock = .noClockLow ∨ (s.port p).lock = .noClockHigh →
    exec (.measurementWindowComplete p high low edges) s = .next s

/-- The clock of a D or S port stops and comes back: NO_CLOCK_LOW or NO_CLOCK_HIGH by the level of the line, and MEASURING at
the next edge; a LOCKED port has lost its lock. A complete status block of an S port with a clock stores the flag and the word
length; a flag that changes queues a PORT notice with reason NON_AUDIO: one that is set takes a PLAYING route of the port to
WAITING, one that is cleared has the WAITING routes judged and attached afresh (R10, R13, R14, R16, R26, R27, R30). The routes
are stated outside HUSHING, and a cleared flag without a re-layout point that is due. In the other states the events cannot
happen and change nothing (log entry 6). -/
def Obligations.ClockAndStatusBlockEvents : Prop :=
  (∀ (s : State) (p : Fin 10) (level : Bool), s.nothingDue → p.1 < 6 →
    (s.port p).lock = .measuring ∨ (s.port p).lock = .unsupported ∨ (s.port p).lock = .locked →
    let stopped : Port :=
      { s.port p with
        lock := if level then .noClockHigh else .noClockLow, period := 0, high := if level then 4194303 else 0
        low := if level then 0 else 4194303, bits := 0, rate := .none, format := .unknown, channels := 0, nonAudio := false
        wordLength := 0, blockSeen := false }
    ∃ t, exec (.edgeTimerExpiry p level) s = .next t ∧ t.ports = s.ports.set p stopped ∧ t.sources = s.sources ∧ t.now = s.now
      ∧ ((s.port p).lock ≠ .locked → t.main = s.main ∧ t.zone = s.zone)
      ∧ ((s.port p).lock = .locked → s.tuner.state ≠ .hushing → s.losesLockAt t p)
      ∧ (s.portUnused p → t = emit .port (portNoticeBytes 0 p stopped) (s.onPort p fun _ => stopped)))
  ∧ (∀ (s : State) (p : Fin 10) (level : Bool), s.nothingDue →
    6 ≤ p.1 ∨ (s.port p).lock = .off ∨ (s.port p).lock = .noClockLow ∨ (s.port p).lock = .noClockHigh →
    exec (.edgeTimerExpiry p level) s = .next s)
  ∧ (∀ (s : State) (p : Fin 10), s.nothingDue → (s.port p).lock = .noClockLow ∨ (s.port p).lock = .noClockHigh →
    let back : Port := { s.port p with lock := .measuring, period := 0, high := 0, low := 0 }
    exec (.clockResumed p) s = .next (emit .port (portNoticeBytes 0 p back) (s.onPort p fun _ => back)))
  ∧ (∀ (s : State) (p : Fin 10), s.nothingDue → (s.port p).lock ≠ .noClockLow → (s.port p).lock ≠ .noClockHigh →
    exec (.clockResumed p) s = .next s)
  ∧ (∀ (s : State) (p : Fin 10) (flag : Bool) (length : Nat), s.nothingDue → p = 4 ∨ p = 5 →
    (s.port p).lock = .measuring ∨ (s.port p).lock = .unsupported ∨ (s.port p).lock = .locked →
    let stored : Port :=
      { s.port p with
        nonAudio := flag, wordLength := if 16 ≤ length ∧ length ≤ 24 then length else 0, blockSeen := true }
    ((s.port p).nonAudio = flag →
      exec (.statusBlockComplete p flag length) s = .next (s.onPort p fun _ => stored))
    ∧ ((s.port p).nonAudio ≠ flag →
      ∃ t, exec (.statusBlockComplete p flag length) s = .next t ∧ t.ports = s.ports.set p stored ∧ t.sources = s.sources
        ∧ t.now = s.now
        ∧ (s.portUnused p → t = emit .port (portNoticeBytes 1 p stored) (s.onPort p fun _ => stored))
        ∧ (flag = false → s.tuner.state ≠ .hushing → s.main.relayoutDue = false → s.mayPlayAt t p)
        ∧ (∀ r, flag = true → s.tuner.state ≠ .hushing →
            (∀ i, (s.route r).selected = some i → (s.source i).port ≠ p)
              ∨ (s.route r).state = .fadingOut ∨ (s.route r).state = .silent ∨ (s.route r).state = .measure →
            t.route r = s.route r)
        ∧ (∀ r i, flag = true → s.tuner.state ≠ .hushing → (s.route r).selected = some i → (s.source i).port = p →
            (s.route r).state = .waiting →
            let x := s.source i
            t.route r = { s.route r with
              reason := some (if x.tunerBound = true ∧ s.tuner.state ≠ .listening then .tunerBusy
                else if x.enabled = false then .sourceDisabled
                else if (s.port p).lock ≠ .locked then .noLock
                else .bitstream) })
        ∧ (∀ r, flag = true → (∃ i, (s.route r).selected = some i ∧ (s.source i).port = p) → (s.route r).state = .playing →
            s.tuner.state ≠ .hushing →
            (t.route r).state = .waiting ∧ (t.route r).reason = some .bitstream ∧ (t.route r).purpose = none
              ∧ (t.route r).pending = none ∧ (t.route r).conv = (s.route r).conv)))
  ∧ ∀ (s : State) (p : Fin 10) (flag : Bool) (length : Nat), s.nothingDue →
    (p ≠ 4 ∧ p ≠ 5) ∨ (s.port p).lock = .off ∨ (s.port p).lock = .noClockLow ∨ (s.port p).lock = .noClockHigh →
    exec (.statusBlockComplete p flag length) s = .next s


/-! ## Audio of the ports and the converters (R17 to R19, R24, R38 to R40) -/

/-- A sample of a LOCKED A or MIC port is trimmed by the two codes, saturated and checked for a clip; an A port delivers its
frame to the converters that take the port, the MIC port its sample to the probing of a run (R17, R18, R38, R39, R120, R122,
R124). A RUNNING converter on an A port reads one frame with each write, so its fill stays as FILLING left it (R40). In any
other lock state, and for a D or S port, no ADC delivers. The sample is the command's operand (log entry 11), and the frame
read waits for the rendering of its block (log entry 21). -/
def Obligations.AdcSamplesAreTrimmed : Prop :=
  ∀ (s : State) (p : Fin 10) (left right : Sample), s.nothingDue →
    let x := s.port p
    let raw (a : Sample) : Int :=
      roundDiv ((a.toInt + (128 - (x.offsetTrim.toNat : Int)) * 64) * trimGain x.gainTrim) 1048576
    let sat (v : Int) : Int := max (-8388608) (min 8388607 v)
    let clip (v : Int) : Nat := if 8388000 ≤ v ∨ v ≤ -8388000 then 1 else 0
    let counted (n : Nat) : Port := { x with clips := if n = 0 then x.clips else min (x.clips + n) 65535 }
    (p.1 < 6 ∨ x.lock ≠ .locked → exec (.adcSample p left right) s = .next s)
    ∧ (6 ≤ p.1 → p.1 < 9 → x.lock = .locked →
      ∃ t, exec (.adcSample p left right) s = .next t
        ∧ t.ports = s.ports.set p (counted (clip (raw left) + clip (raw right)))
        ∧ t = { s with ports := t.ports, main := t.main, zone := t.zone }
        ∧ (∀ r, (s.route r).conv.input.map (·.port) ≠ some p → t.route r = s.route r)
        ∧ ∀ (r : RouteId) (i : ConvInput), (s.route r).conv.input = some i → i.port = p →
          let frame := converterFrame r s.render.zoneMix i x [sat (raw left), sat (raw right)]
          let c := (s.route r).conv
          (c.state = .filling → c.fifo.length < 127 →
            t.route r = { s.route r with conv := { c with fifo := c.fifo ++ [frame] } })
          ∧ (c.state = .filling → c.fifo.length = 127 →
            t.route r = { s.route r with
              conv := { c with state := .running, fifo := c.fifo ++ [frame], phase := 0, step := c.baseStep } })
          ∧ (c.state = .running →
            t.route r = { s.route r with conv := { c with
              fifo := (c.fifo ++ [frame]).drop 1, given := c.given ++ (c.fifo ++ [frame]).take 1 } }
            ∧ (t.route r).conv.fifo.length = c.fifo.length)
          ∧ (c.state = .idle ∨ c.state = .suspended → t.route r = s.route r))
    ∧ (p = 9 → x.lock = .locked →
      let y := sat (raw left)
      (s.measure.run.bind (·.probe) = none →
        exec (.adcSample p left right) s = .next (s.onPort p fun _ => counted (clip (raw left))))
      ∧ ∀ (run : Run) (q : Probe), s.measure.run = some run → run.probe = some q →
        let taken (q' : Probe) : State :=
          (s.onPort p fun _ => counted (clip (raw left))).onMeasure fun m => { m with run := some { run with probe := some q' } }
        (q.phase = .ambient → q.frame < 4800 →
          exec (.adcSample p left right) s = .next (taken { q with peak := max q.peak y.natAbs, frame := q.frame + 1 }))
        ∧ (q.phase = .listen → q.frame < 2880 → q.arrival = none → y.natAbs < q.threshold →
          exec (.adcSample p left right) s
            = .next (taken { q with frame := q.frame + 1, clipped := q.clipped || decide (clip (raw left) = 1) }))
        ∧ (q.phase = .listen → q.frame < 2880 → q.arrival = none → q.threshold ≤ y.natAbs →
          exec (.adcSample p left right) s
            = .next (taken { q with
                frame := q.frame + 1, arrival := some q.frame, negative := decide (y < 0)
                sumSquares := q.sumSquares + y.natAbs ^ 2, clipped := q.clipped || decide (clip (raw left) = 1) }))
        ∧ ∀ at0 : Nat, q.phase = .listen → q.frame < 3840 → q.arrival = some at0 →
          exec (.adcSample p left right) s
            = .next (taken { q with
                frame := q.frame + 1
                sumSquares := if q.frame < at0 + 960 then q.sumSquares + y.natAbs ^ 2 else q.sumSquares
                clipped := q.clipped || decide (clip (raw left) = 1) }))

/-- What a converter writes: on MAIN lane k carries source channel k, from port channel first + k with the swap acting on
the first two, and zero at and above the channel count, at and above the detected channels, and under the non-audio flag; on
ZONE the two downmix sums. The writes that bring a FILLING converter to 128 frames start it; those that bring a RUNNING
converter to 256 re-centre it, and an empty FIFO takes it to FILLING; each slip is counted at the port and queues a PORT
notice with reason SLIP (R19, R24, R38 to R40). The slips are stated for a port that the other route's converter does not
take. The commands and their frames are the model's operands (log entry 11). -/
def Obligations.ConvertersFillAndSlip : Prop :=
  (∀ (mix : Table (Int × Int) 8) (i : ConvInput) (x : Port) (frame : List Int),
    let from0 (k : Nat) : Nat :=
      if i.swap = true ∧ 2 ≤ i.count ∧ k = 0 then i.first + 1 else if i.swap = true ∧ 2 ≤ i.count ∧ k = 1 then i.first
      else i.first + k
    let lane (k : Nat) : Int :=
      if x.nonAudio = true ∨ i.count ≤ k ∨ x.channels ≤ from0 k then 0 else frame.getD (from0 k) 0
    let sum (f : Int × Int → Int) : Int := ((List.range 8).map fun k => f (mix.items.getD k (0, 0)) * lane k).sum
    let sat (v : Int) : Int := max (-8388608) (min 8388607 v)
    (converterFrame .main mix i x frame).length = 8
      ∧ (∀ k < 8, (converterFrame .main mix i x frame).getD k 0 = lane k)
      ∧ converterFrame .zone mix i x frame = [sat (roundDiv (sum (·.1)) 16384), sat (roundDiv (sum (·.2)) 16384)])
  ∧ ∀ (s : State) (r : RouteId) (i : ConvInput) (frames : List (List Sample)), s.nothingDue →
    (s.route r).conv.input = some i → (∀ q, q ≠ r → (s.route q).conv.input.map (·.port) ≠ some i.port) →
    let c := (s.route r).conv
    let x := s.port i.port
    let written := c.fifo ++ frames.map fun f => converterFrame r s.render.zoneMix i x (f.map (·.toInt))
    let slipped : Port := { x with slips := min (x.slips + 1) 65535 }
    (c.state = .filling → 6 ≤ i.port.1 ∨ x.lock = .locked → frames ≠ [] → written.length = 128 →
      exec (.converterFilled r frames) s
        = .next (s.onConv r fun c => { c with state := .running, fifo := written, phase := 0, step := c.baseStep }))
    ∧ (c.state ≠ .filling → exec (.converterFilled r frames) s = .next s)
    ∧ (c.state = .running → i.port.1 < 6 → x.lock = .locked → frames ≠ [] → written.length = 256 →
      exec (.converterSlip r frames) s
        = .next (emit .port (portNoticeBytes 2 i.port slipped)
            ((s.onConv r fun c => { c with fifo := written.drop 128, phase := 0 }).onPort i.port fun _ => slipped)))
    ∧ (c.state = .running → i.port.1 < 6 →
      exec (.converterSlip r []) s
        = .next (emit .port (portNoticeBytes 2 i.port slipped)
            ((s.onConv r fun c => { c with state := .filling, fifo := [] }).onPort i.port fun _ => slipped)))
    ∧ (c.state ≠ .running ∨ 6 ≤ i.port.1 → exec (.converterSlip r frames) s = .next s)

/-! ## Sources and routes (chapter 2) -/

/-- SOURCE_SET: a record that passes the checks is stored with its trim and lip-sync clamped, and acts on the routes that
select it by R43; a refusal changes nothing (R42, R43). -/
def Obligations.SourceSetStoresTheRecord : Prop :=
  ∀ (s : State) (tag b : Byte) (raw : RawSource), s.serves tag → raw.layout.length = 8 →
    let count := raw.count.toNat
    let used := raw.layout.take count
    let most := if raw.port.toNat ≤ 4 then 8 else 2
    let valid : Prop := raw.port ≠ 10 ∧ raw.first.toNat ≤ 7 ∧ 1 ≤ count ∧ count ≤ 8 ∧ raw.first.toNat + count ≤ most
      ∧ used.Nodup ∧ (∀ l ∈ used, 1 ≤ l.toNat ∧ l.toNat ≤ 14 ∧ l ≠ 4 ∧ l ≠ 5) ∧ (∀ l ∈ raw.layout.drop count, l = 0)
      ∧ raw.enabled.toNat ≤ 1 ∧ raw.tunerBound.toNat ≤ 1 ∧ raw.swap.toNat ≤ 1 ∧ raw.mode.toNat ≤ 3
    (b = 0 ∨ 12 < b.toNat ∨ raw.port = 0 ∨ 10 < raw.port.toNat →
      exec (.sourceSet tag b raw) s = .next (s.replied 0x18 tag .notFound []))
    ∧ ∀ (i : Fin 12) (p : Fin 10), b.toNat = i.1 + 1 → raw.port.toNat = p.1 + 1 →
      (¬valid → exec (.sourceSet tag b raw) s = .next (s.replied 0x18 tag .badValue (b :: sourceBytes (s.source i))))
      ∧ ∀ x : Source, valid →
        x.enabled = decide (raw.enabled = 1) → x.port = p → x.first = raw.first.toNat → x.count = count →
        x.layout.map labelCode = used → x.trim = max (-120) (min 120 raw.trim.toInt) → x.lipsync = min raw.lipsync.toNat 250 →
        x.tunerBound = decide (raw.tunerBound = 1) → x.swap = decide (raw.swap = 1) → modeCode x.mode = raw.mode →
        let status : Status := if x.trim = raw.trim.toInt ∧ x.lipsync = raw.lipsync.toNat then .ok else .clamped
        ∃ t, exec (.sourceSet tag b raw) s = .next t ∧ t.sources = s.sources.set i x
          ∧ t.link.outbound.take (s.link.outbound.length + 1)
            = s.link.outbound ++ [⟨.reply, 0x98, tag, statusCode status :: b :: sourceBytes x⟩]
          ∧ ((x = s.source i ∨ ∀ r, (s.route r).selected ≠ some i) →
            t = (s.setSource i x).replied 0x18 tag status (b :: sourceBytes x))
          ∧ (x ≠ s.source i → s.tuner.state ≠ .hushing →
            t = { s with sources := t.sources, link := t.link, main := t.main, zone := t.zone }
            ∧ ∀ r, (s.route r).selected = some i →
              ((s.route r).state = .playing → x.enabled = false →
                t.route r = { s.route r with
                  state := .waiting, purpose := none, pending := none, reason := some .sourceDisabled })
              ∧ ((s.route r).state = .waiting ∨ ((s.route r).state = .playing ∧ x.enabled = true) →
                t.route r = { s.route r with
                  state := .fadingOut, purpose := some .switch, pending := some (some i), reason := none })
              ∧ ((s.route r).state = .fadingOut →
                (s.route r).purpose = some .relayout ∨ (s.route r).purpose = some .hold →
                t.route r = { s.route r with purpose := some .switch, pending := some (some i) })
              ∧ ((s.route r).state = .silent ∨ (s.route r).state = .measure → t.route r = s.route r))

/-- SOURCE_READ, ROUTE_READ, CHANNEL_READ, LAYOUT_READ, RESULT_READ and PROFILE_READ show what they name as it stands and change
nothing else than the counter of the free values, from which the bytes for an unknown route or selector come. And the bytes that every
statement is told in: the fields and codes of R194, the statuses of R196, the records of R197 (R44, R46, R65, R88, R133, R134,
R194, R196, R197; the bytes for what is unknown: log entry 2). The phase of a run has the model's codes and the lists of LAYOUT_READ the model's forms
(log entry 8), and the frame count of a run the model's cap (log entry 16). -/
def Obligations.RecordReadsChangeNothing : Prop :=
  (∀ (s : State) (tag b : Byte), s.serves tag →
    (∀ i : Fin 12, b.toNat = i.1 + 1 →
      exec (.sourceRead tag b) s = .next (s.replied 0x19 tag .ok (b :: sourceBytes (s.source i)))
      ∧ exec (.channelRead tag b) s
        = .next (s.replied 0x2C tag .ok (channelBytes i (decide (i ∈ s.render.present)) (s.channel i))))
    ∧ (b = 0 ∨ 12 < b.toNat → exec (.sourceRead tag b) s = .next (s.replied 0x19 tag .notFound [])
      ∧ exec (.channelRead tag b) s = .next (s.replied 0x2C tag .notFound []))
    ∧ (∀ r, b = routeCode r → exec (.routeRead tag b) s
        = .next (s.replied 0x1B tag .ok (routeBytes r (s.route r) ++ [convCode (s.route r).conv.state]
          ++ (match (s.route r).conv.input with
            | some i => [1, number i.port]
            | none => [0, 0])
          ++ u16 (s.route r).conv.fifo.length)))
    ∧ (2 ≤ b.toNat → ∃ body n, exec (.routeRead tag b) s = .next ({ s with free := n }.replied 0x1B tag .badValue body))
    ∧ (b = 0 → exec (.layoutRead tag b) s = .next (s.replied 0x21 tag .ok
      (layoutBytes s.render.inForce ++ 1 :: presentBytes s.render ++ [1, flagCode s.render.zoneFeed]
        ++ 1 :: listField 6 11 (s.render.bass.map bassBytes) ++ [0, 0])))
    ∧ (b = 1 → exec (.layoutRead tag b) s = .next (s.replied 0x21 tag .ok
      (layoutBytes s.render.requested ++ List.replicate 26 0 ++ [0, 0] ++ List.replicate 68 0
        ++ [1, flagCode s.main.relayoutDue])))
    ∧ (2 ≤ b.toNat → exec (.layoutRead tag b) s
      = .next ({ s with free := s.free + 147 }.replied 0x21 tag .badValue (freeBytes 147 s.free)))
    ∧ exec (.resultRead tag) s = .next (s.replied 0x42 tag .ok
      (runBytes s.measure.run ++ u16 s.measure.latency ++ s16 s.measure.correction
        ++ (s.measure.results.items.map resultBytes).flatten))
    ∧ exec (.profileRead tag) s = .next (s.replied 0x43 tag .ok
      (layoutBytes s.render.inForce ++ (s.gain.channels.items.map fun c => halfBytes c.active).flatten
        ++ [if s.main.relayoutDue then 1 else 0])))
  -- the fields of R194 and the statuses of R196
  ∧ (∀ (n : Nat) (v : Int),
    u16 n = [BitVec.ofNat 8 n, BitVec.ofNat 8 (n / 256)] ∧ s16 v = [BitVec.ofInt 8 v, BitVec.ofInt 8 (v / 256)]
    ∧ u32 n = [BitVec.ofNat 8 n, BitVec.ofNat 8 (n / 256), BitVec.ofNat 8 (n / 65536), BitVec.ofNat 8 (n / 16777216)])
  ∧ (∀ (n : Nat) (i : Fin n), number i = BitVec.ofNat 8 (i.1 + 1)) ∧ sourceNumber none = 0
  ∧ (∀ i, sourceNumber (some i) = BitVec.ofNat 8 (i.1 + 1))
  ∧ (∀ (n k : Nat) (l : List (Fin n)), (maskOf l).testBit k = l.any fun i => decide (i.1 = k))
  ∧ (∀ (size most : Nat) (entries : List (List Byte)), listField size most entries
      = BitVec.ofNat 8 entries.length :: entries.flatten ++ List.replicate ((most - entries.length) * size) 0)
  ∧ allSlots = List.finRange 12 ∧ allGroups = List.finRange 6 ∧ (∀ i, (groupOf i).1 = i.1 / 2)
  ∧ [Status.ok, .started, .clamped, .busy, .notReady, .badKind, .badLength, .badValue, .notFound, .empty].map statusCode
    = [0x00, 0x01, 0x02, 0x10, 0x11, 0x12, 0x13, 0x14, 0x15, 0x16]
  ∧ (∀ (st : Status) (body : List Byte), replyBody st body
      = if st = .badLength ∨ st = .notFound ∨ st = .empty then [statusCode st] else statusCode st :: body)
  ∧ [false, true].map flagCode = [0, 1] ∧ [RouteId.main, .zone].map routeCode = [0, 1]
  ∧ [Size.large, .small].map sizeCode = [0, 1] ∧ [Band.fm, .am].map bandCode = [0, 1]
  ∧ [LockState.off, .measuring, .unsupported, .locked, .noClockLow, .noClockHigh].map lockCode = [0, 1, 2, 3, 4, 5]
  ∧ [Format.unknown, .twoChannel, .tdm4, .tdm8, .biphase, .analog].map formatCode = [0, 1, 2, 3, 4, 5]
  ∧ [RateClass.none, .r32, .r44, .r48, .r88, .r96, .r176, .r192].map rateCode = [0, 1, 2, 3, 4, 5, 6, 7]
  ∧ [Label.unassigned, .fl, .fr, .c, .sw1, .sw2, .sl, .sr, .bl, .br, .tfl, .tfr, .trl, .trr, .lfe].map labelCode
    = [0, 1, 2, 3, 4, 5, 6, 7, 8, 9, 10, 11, 12, 13, 14]
  ∧ [RenderMode.auto, .direct, .stereo, .matrix].map modeCode = [0, 1, 2, 3]
  ∧ [RouteState.silent, .fadingOut, .waiting, .playing, .measure].map routeStateCode = [0, 1, 2, 3, 4]
  ∧ [Purpose.switch, .relayout, .hold, .standby, .measure].map purposeCode = [0, 1, 2, 3, 4]
  ∧ [Reason.noLock, .bitstream, .tunerBusy, .sourceDisabled, .notRunning].map reasonCode = [0, 1, 2, 3, 4]
  ∧ [ConvState.idle, .filling, .running, .suspended].map convCode = [0, 1, 2, 3]
  ∧ [GroupState.off, .powering, .on, .faultWait, .latched].map groupStateCode = [0, 1, 2, 3, 4]
  ∧ [Cause.none, .current, .thermal, .line].map groupCauseCode = [0, 1, 2, 3]
  ∧ [RunState.preparing, .probing, .restoring].map (fun st => runStateCode (some st)) = [1, 2, 3]
  ∧ [ApplyMode.none, .stage, .stageAndLoad].map applyCode = [0, 1, 2] ∧ [Phase.ambient, .listen].map phaseCode = [0, 1]
  ∧ [ResultStatus.empty, .pending, .ok, .noisy, .clipped, .absent, .faulted, .skipped].map resultCode = [0, 1, 2, 3, 4, 5, 6, 7]
  ∧ [TunerState.off, .hushing, .tuning, .listening, .seeking, .scanning].map tunerStateCode = [0, 1, 2, 3, 4, 5]
  ∧ [AgcMode.closed, .frozen, .manual].map agcCode = [0, 1, 2]
  ∧ [BusState.idle, .active, .held, .recovering, .busDown].map busStateCode = [0, 1, 2, 3, 4]
  ∧ [Requester.tuner, .protect, .relay].map requesterCode = [0, 1, 2]
  ∧ [OpState.standby, .waking, .running, .quieting].map opStateCode = [0, 1, 2, 3]
  ∧ [ResetCause.power, .pin, .restart].map State.causeCode = [0, 1, 2]
  -- the records of R197
  ∧ (∀ x : Source, x.layout.length ≤ 8 →
    sourceBytes x = [flagCode x.enabled, number x.port, BitVec.ofNat 8 x.first, BitVec.ofNat 8 x.count]
      ++ ((List.range 8).map fun k => match x.layout[k]? with
        | some l => labelCode l
        | none => 0)
      ++ s16 x.trim ++ u16 x.lipsync ++ [flagCode x.tunerBound, flagCode x.swap, modeCode x.mode])
  ∧ (∀ h : Half, halfBytes h = u16 h.distance ++ s16 h.trim ++ [flagCode h.inverted])
  ∧ (∀ (i : Fin 12) (present : Bool) (c : Channel),
    channelBytes i present c = [number i, flagCode present]
      ++ u16 c.active.distance ++ s16 c.active.trim ++ [flagCode c.active.inverted]
      ++ u16 c.pending.distance ++ s16 c.pending.trim ++ [flagCode c.pending.inverted, flagCode c.marked]
      ++ s16 c.target ++ s16 c.current ++ [flagCode c.redelay] ++ u32 c.allocated ++ u32 c.committed)
  ∧ (∀ (r : RouteId) (x : Route),
    routeBytes r x = [routeCode r, routeStateCode x.state, sourceNumber x.selected]
      ++ (match x.pending with
        | some q => [1, sourceNumber q]
        | none => [0, 0])
      ++ (match x.purpose with
        | some q => [1, purposeCode q]
        | none => [0, 0])
      ++ (match x.reason with
        | some q => [1, reasonCode q]
        | none => [0, 0])
      ++ [(if x.degraded then 1 else 0) + (if x.limited then 2 else 0) + if r = .main ∧ x.relayoutDue = true then 4 else 0]
      ++ match x.effMode with
        | some q => [1, modeCode q]
        | none => [0, 0])
  ∧ (∀ l : Layout, layoutBytes l
      = ((List.finRange 12).map fun i =>
          labelCode (l.slots.get i).position :: match (l.slots.get i).bass with
            | some (z, f) => sizeCode z :: u16 f
            | none => [0xFF, 0, 0]).flatten ++ [flagCode l.lfeToMains])
  ∧ (∀ r : Renderer, presentBytes r
      = BitVec.ofNat 8 r.present.length
        :: (r.present.map fun i => [number i, labelCode (r.inForce.slots.get i).position]).flatten
        ++ List.replicate ((12 - r.present.length) * 2) 0)
  ∧ (∀ e : BassEntry, bassBytes e
      = number e.slot :: u16 e.crossover ++ BitVec.ofNat 8 e.receivers.length :: e.receivers.map number
        ++ List.replicate (2 - e.receivers.length) 0)
  ∧ (∀ x : Result, resultBytes x = [resultCode x.status]
      ++ (match x.measured with
        | some (distance, level, inverted) => 1 :: u16 distance ++ s16 level ++ [flagCode inverted]
        | none => [0, 0, 0, 0, 0, 0])
      ++ [flagCode x.trimLimit])
  ∧ runBytes none = List.replicate 25 0
  ∧ ∀ x : Run, runBytes (some x) = runStateCode (some x.state) :: u16 (maskOf x.mask)
      ++ (match x.probe with
        | some p =>
          let last := match p.phase with
            | .ambient => 4799
            | .listen => 3839
          [1, number p.slot, 1, BitVec.ofNat 8 p.repetition, 1, flagCode p.repeatUsed, 1, phaseCode p.phase, 1]
            ++ u16 (min p.frame last)
        | none => [0, 0, 0, 0, 0, 0, 0, 0, 0, 0, 0])
      ++ [BitVec.ofNat 8 x.repetitions] ++ s16 x.burst ++ [number x.reference, applyCode x.apply, x.tag,
        match x.outcome with
          | .done => 0x00
          | .degraded => 0x03
          | .aborted => 0x10]
      ++ u16 x.latency ++ s16 x.correction

/-- SELECT by the table of R45, but for its attach: a fade to the new source, a new pending source, a selection held while the
part is not RUNNING, or no change; each change queues one ROUTE notice and on MAIN drops the RENDER_MODE override (R41, R45,
R51; the bytes of an unknown route: log entry 2). That the route code is checked first, the source id after it and BUSY last is
the model's choice (log entry 20). -/
def Obligations.SelectActsByTheRouteState : Prop :=
  ∀ (s : State) (tag rb sb : Byte), s.serves tag →
    (2 ≤ rb.toNat → exec (.select tag rb sb) s
      = .next ({ s with free := s.free + 4 }.replied 0x1A tag .badValue (rb :: freeBytes 4 s.free)))
    ∧ (rb.toNat < 2 → 12 < sb.toNat → exec (.select tag rb sb) s = .next (s.replied 0x1A tag .notFound []))
    ∧ ∀ (r : RouteId) (sel : Option (Fin 12)), rb = routeCode r → sb = sourceNumber sel →
      let x := s.route r
      let shown (y : Route) : List Byte :=
        [rb, routeStateCode y.state, sourceNumber y.selected]
          ++ (match y.pending with
            | some q => [1, sourceNumber q]
            | none => [0, 0])
      let kept : State := s.replied 0x1A tag .ok (shown x)
      let becomes (y : Route) : State :=
        emit .route (0 :: routeBytes r y)
          (((s.onRender fun q => if r = .main then { q with override := none } else q).onRoute r fun _ => y).replied 0x1A tag .ok
            (shown y))
      (r = .main → s.measure.run ≠ none → exec (.select tag rb sb) s = .next (s.replied 0x1A tag .busy (shown x)))
      ∧ ((r = .main → s.measure.run = none) →
        (s.link.opState = .running → x.state = .playing ∨ x.state = .waiting →
          exec (.select tag rb sb) s = .next (if x.selected = sel then kept
            else becomes { x with state := .fadingOut, purpose := some .switch, pending := some sel, reason := none }))
        ∧ (s.link.opState = .running → x.state = .silent → sel = none → exec (.select tag rb sb) s = .next kept)
        ∧ (s.link.opState = .running → x.state = .fadingOut →
          exec (.select tag rb sb) s = .next (if x.pending = some sel ∨ (x.pending = none ∧ x.selected = sel) then kept
            else becomes { x with
              pending := some sel
              purpose := if x.purpose = some .relayout ∨ x.purpose = some .hold then some .switch else x.purpose }))
        ∧ (s.link.opState ≠ .running → x.state = .silent → x.selected ≠ sel →
          exec (.select tag rb sb) s
            = .next (becomes { x with selected := sel, reason := if sel = none then none else some .notRunning }))
        ∧ (s.link.opState ≠ .running → x.state = .fadingOut →
          exec (.select tag rb sb) s = .next (if x.pending = some sel then kept else becomes { x with pending := some sel })))

/-- SELECT of a source on a SILENT route of a RUNNING part attaches it: the judgement of R26 in its order, the converter, the
DEGRADED flag, the trim and lip-sync, and on MAIN the effective render mode and a matrix that feeds present slots alone (R26,
R27, R38, R39, R45, R50, R52, R54), and on ZONE the trim and the zone downmix by its coefficients (R60). A period count of 0
gives a free base step (log entry 3). -/
def Obligations.SelectAttachesTheSource : Prop :=
  ∀ (s : State) (tag : Byte) (r : RouteId) (i : Fin 12), s.serves tag → s.link.opState = .running → (s.route r).state = .silent →
    (r = .main → s.measure.run = none ∧ s.main.relayoutDue = false) →
    let x := s.source i
    let p := s.port x.port
    let why : Option Reason :=
      if x.tunerBound = true ∧ s.tuner.state ≠ .listening then some .tunerBusy
      else if x.enabled = false then some .sourceDisabled
      else if p.lock ≠ .locked then some .noLock
      else if p.nonAudio = true then some .bitstream
      else none
    let zoneFold (l : Label) : Int × Int :=
      match l with
      | .fl => (16384, 0)
      | .fr => (0, 16384)
      | .c => (11585, 11585)
      | .sl | .bl | .tfl | .trl => (11585, 0)
      | .sr | .br | .tfr | .trr => (0, 11585)
      | .lfe | .sw1 | .sw2 | .unassigned => (0, 0)
    judge s i = why
    ∧ ∃ t, exec (.select tag (routeCode r) (number i)) s = .next t
      ∧ (t.route r).state = (if why = none then .playing else .waiting) ∧ (t.route r).reason = why
      ∧ (t.route r).selected = some i ∧ (t.route r).pending = none ∧ (t.route r).purpose = none
      ∧ (t.route r).degraded = decide (p.lock = .locked ∧ p.channels < x.first + x.count)
      ∧ (t.route r).conv.state = (if p.lock = .locked then .filling else .suspended)
      ∧ (t.route r).conv.input = some ⟨x.port, x.first, x.count, x.swap⟩ ∧ (t.route r).conv.fifo = []
      ∧ (t.route r).conv.phase = 0
      ∧ (6 ≤ x.port.1 → (t.route r).conv.baseStep = 16777216)
      ∧ (x.port.1 < 6 → p.period ≠ 0 → ((t.route r).conv.baseStep : Int) = roundDiv 549755813888 p.period)
      ∧ t.ports = s.ports ∧ t.sources = s.sources ∧ t.protect = s.protect ∧ t.measure = s.measure ∧ t.tuner = s.tuner
      ∧ t.bus = s.bus ∧ t.pins = s.pins ∧ t.now = s.now
      ∧ (r = .zone → t.main = s.main ∧ t.gain = { s.gain with zoneTrim := x.trim }
        ∧ ∀ k : Fin 8, t.render.zoneMix.get k = if k.1 < x.count then zoneFold (x.layout.getD k.1 .unassigned) else (0, 0))
      ∧ (r = .main →
        let asked := if s.main.selected = some i then s.render.override.getD x.mode else x.mode
        let mode : RenderMode :=
          if asked = .direct then .direct else if asked = .stereo then .stereo else if x.count = 2 then .matrix else .direct
        t.zone = s.zone ∧ t.gain.mainTrim = x.trim ∧ t.gain.mainLip = x.lipsync ∧ t.gain.mainVolume = s.gain.mainVolume
        ∧ t.main.effMode = some mode ∧ t.render.attached = some x ∧ t.render.energySum = 0 ∧ t.render.energyDiff = 0 ∧ t.render.steerC = 8192
        ∧ t.render.steerS = 8192
        ∧ (∀ (k : Fin 8) (j : Fin 12), j ∉ s.render.present ∨ x.count ≤ k.1 ∨ mode = .matrix → (t.render.lanes.get k).get j = 0)
        ∧ ∀ (k : Fin 8) (j : Fin 12) (l : Label), mode = .direct → k.1 < x.count → x.layout[k.1]? = some l → l ≠ .lfe →
          l ≠ .unassigned → j ∈ s.render.present → (s.render.inForce.slots.get j).position = l →
          (∀ m ∈ s.render.present, (s.render.inForce.slots.get m).position = l → m = j) →
          ∀ m, (t.render.lanes.get k).get m = if m = j then 16384 else 0)

/-- The fade-out completion acts on the purpose of the fade, once every level of the route has fallen; before that, and for a
route that is not fading, nothing happens (R28, R29); where the fade was for a run, PROBING and the route have their notices
(R41, R132, R198). For MAIN stated without a re-layout point that is due; that a completion of ZONE leaves one that is due on
MAIN as it is, is the model's reading (log entry 14). Stated outside HUSHING. (The event and what makes it due: log entry 6; the
order of the two notices: log entry 12.) -/
def Obligations.FadeOutCompletionActsOnThePurpose : Prop :=
  ∀ (s : State) (r : RouteId), s.nothingDue →
    let x := s.route r
    let fallen : Prop :=
      (r = .main → ∀ i ∈ s.render.present, (s.channel i).current ≤ -900)
      ∧ (r = .zone → s.gain.zoneCurrent ≤ -900
        ∧ (s.gain.zoneAssigned = true → (s.channel 6).current ≤ -900 ∧ (s.channel 7).current ≤ -900))
    let silentWith (sel : Option (Fin 12)) (why : Option Reason) : Route :=
      { x with
        state := .silent, selected := sel, pending := none, purpose := none, reason := why, degraded := false
        conv := { x.conv with state := .idle, input := none, fifo := [], given := [] }
        limited := x.limited }
    (x.state ≠ .fadingOut ∨ ¬fallen → exec (.fadeOutCompletion r) s = .next s)
    ∧ (x.state = .fadingOut → fallen → s.tuner.state ≠ .hushing → (r = .main → s.main.relayoutDue = false) →
      (r = .zone → x.purpose ≠ some .measure) →
      ∃ t, exec (.fadeOutCompletion r) s = .next t
        ∧ (∀ q, q ≠ r → t.route q = s.route q) ∧ t.ports = s.ports ∧ t.sources = s.sources ∧ t.tuner = s.tuner ∧ t.bus = s.bus
        ∧ t.pins = s.pins ∧ t.now = s.now ∧ t.render.inForce = s.render.inForce ∧ t.gain.mainVolume = s.gain.mainVolume
        ∧ (x.purpose = some .standby →
          t.route r = { silentWith (x.pending.getD x.selected)
            (if x.pending.getD x.selected = none then none else some .notRunning) with limited := (t.route r).limited })
        ∧ (r = .main → x.purpose = some .measure →
          t.main = { x with
            state := .measure, purpose := none, reason := none, degraded := false
            conv := { x.conv with state := .idle, input := none, fifo := [], given := [] } }
          ∧ ∀ run, s.measure.run = some run → run.state = .preparing →
            ∃ run', t.measure.run = some run' ∧ run'.state = .probing ∧ run'.mask = run.mask.filter (· ∈ s.render.present)
              ∧ t.link = (s.tellsRoutes t
                (emit .measure ([0, 2] ++ u16 (maskOf run'.mask) ++ s16 run.burst) s)).link)
        ∧ ∀ dest : Option (Fin 12),
          (x.purpose = some .switch ∧ dest = x.pending.getD x.selected)
            ∨ ((x.purpose = some .relayout ∨ x.purpose = some .hold) ∧ dest = x.selected) →
          (dest = none → t.route r = { silentWith none none with limited := (t.route r).limited })
          ∧ ∀ i, dest = some i →
            (t.route r).selected = some i ∧ (t.route r).pending = none ∧ (t.route r).purpose = none
            ∧ (t.route r).conv.input = some ⟨(s.source i).port, (s.source i).first, (s.source i).count, (s.source i).swap⟩
            ∧ (t.route r).conv.fifo = [] ∧ (t.route r).reason = judge s i
            ∧ (t.route r).state = if judge s i = none then .playing else .waiting)

/-- The re-layout point puts the requested layout and zone assignment in force: the present set, the bass routing table with
one cleared entry for each slot that sends its low part, and the needed flags follow. It falls at a boundary while MAIN is
SILENT or WAITING, at the completion of a fade of MAIN before the purpose is acted on, and at the release of MAIN by a run
before the attach, with the delay lines silent. A group that becomes needed in WAKING or RUNNING starts or waits for its start,
one that ceases to be needed goes to OFF, and in STANDBY and QUIETING the flag alone changes. In WAKING the start list follows:
a group that finished its attempt and left the list joins it again as finished (R29, R33, R35, R48, R49, R58, R81, R94, R98,
R100, R109). Without a point that is due the event cannot happen and changes nothing; it is a command of its own beside the
boundary (log entries 6 and 11), and the spacing of starts is the model's (log entry 15). The completion of a fade is stated
outside WAKING. -/
def Obligations.RelayoutPointPutsTheLayoutInForce : Prop :=
  let laid (s t : State) : Prop :=
    let l := s.render.requested
    let z := s.protect.zoneRequested
    let subwoofer (i : Fin 12) : Prop := (l.slots.get i).position = .sw1 ∨ (l.slots.get i).position = .sw2
    t.main.relayoutDue = false ∧ t.render.requested = l ∧ t.render.inForce = l ∧ t.render.zoneFeed = z
    ∧ t.protect.zoneRequested = z ∧ t.protect.zoneInForce = z ∧ t.gain.zoneAssigned = z
    ∧ (∀ i, i ∈ t.render.present ↔ ((l.slots.get i).position ≠ .unassigned ∧ ¬(z = true ∧ (i = 6 ∨ i = 7))))
    ∧ (∀ i, (t.render.bass.filter fun e => decide (e.slot = i)).length
        = if (i ∈ t.render.present ∧ ((l.slots.get i).bass.map (·.1)) = some .small)
            ∧ ((∃ w ∈ t.render.present, subwoofer w) ∨ (i ≠ 0 ∧ i ≠ 1)) then 1 else 0)
    ∧ (∀ e ∈ t.render.bass, e.first = ⟨0, 0, 0, 0⟩ ∧ e.second = ⟨0, 0, 0, 0⟩
        ∧ e.slot ∈ t.render.present ∧ (l.slots.get e.slot).bass = some (.small, e.crossover)
        ∧ if ∃ w ∈ t.render.present, subwoofer w then ∀ w, w ∈ e.receivers ↔ (w ∈ t.render.present ∧ subwoofer w)
          else e.receivers = [0, 1] ∧ e.slot ≠ 0 ∧ e.slot ≠ 1)
    ∧ (∀ (k : Fin 8) (j : Fin 12), j ∉ t.render.present → s.main.conv.input ≠ none → s.render.attached ≠ none →
        (t.render.lanes.get k).get j = 0)
    ∧ ∀ g : Fin 6,
      let acts : Prop := s.link.opState = .running ∨ s.link.opState = .waking
      let c := s.group g
      let needed : Bool := decide ((∃ i ∈ t.render.present, i.1 / 2 = g.1) ∨ (g = 3 ∧ z = true))
      (t.group g).needed = needed
      ∧ (s.link.opState ≠ .quieting ∨ t.link.opState = .quieting → c.needed = needed ∨ ¬acts →
        t.group g = { c with needed := needed })
      ∧ (acts → c.needed = false → needed = true →
        (c.state ≠ .off → t.group g = { c with needed := true })
        ∧ (c.state = .off →
          ((t.group g).state = .powering ∧ (t.group g).driven = true ∧ (t.group g).settle = some (s.now + 200))
          ∨ (t.group g = { c with needed := true } ∧ g ∈ t.protect.startQueue ∧ t.protect.spacing ≠ none)))
      ∧ (acts → c.needed = true → needed = false →
        g ∉ t.protect.startQueue
        ∧ (c.state = .off ∨ c.state = .latched → t.group g = { c with needed := false })
        ∧ (c.state = .powering ∨ c.state = .on ∨ c.state = .faultWait →
          t.group g = { c with
            needed := false, state := .off, driven := false, settle := none, retry := none
            readback := if c.driven then c.readback ++ [s.now + 1] else c.readback, reported := c.attenuation }
          ∧ (c.state = .on → ∀ i : Fin 12, i.1 / 2 = g.1 → (t.channel i).current = -1000 ∧ (t.channel i).coef = 0)))
  (∀ (s : State), s.nothingDue →
    s.main.relayoutDue = false ∨ (s.main.state ≠ .silent ∧ s.main.state ≠ .waiting) → exec .relayoutPoint s = .next s)
  ∧ (∀ (s : State), s.nothingDue → s.main.relayoutDue = true → s.main.state = .silent ∨ s.main.state = .waiting →
    ∃ t, exec .relayoutPoint s = .next t ∧ laid s t ∧ t.ports = s.ports ∧ t.sources = s.sources ∧ t.now = s.now
      ∧ (s.link.opState ≠ .waking →
        t.main.state = s.main.state ∧ t.main.selected = s.main.selected ∧ t.main.pending = s.main.pending
        ∧ t.main.reason = s.main.reason ∧ t.main.conv = s.main.conv ∧ t.zone = s.zone
        ∧ t.tuner = s.tuner ∧ t.bus = s.bus ∧ t.link.opState = s.link.opState)
      ∧ ∀ l, s.link.opState = .waking → s.protect.startList = some l →
        let joined (g : Fin 6) (done : Bool) : Prop :=
          if (s.group g).needed = (t.group g).needed ∨ ((t.group g).needed = true ∧ (s.group g).state = .latched) then (g, done) ∈ l
          else (t.group g).needed = true ∧ done = decide
            ((s.group g).state = .on ∨ (s.group g).state = .faultWait ∨ g ∈ s.protect.leftFinished)
        (t.link.opState = .waking → ∃ m, t.protect.startList = some m ∧ (∀ g done, (g, done) ∈ m ↔ joined g done)
          ∧ ∀ g, (s.group g).needed = true → (t.group g).needed = false → (g, true) ∈ l → g ∈ t.protect.leftFinished)
        ∧ ((∀ g, ¬joined g false) ↔ t.link.opState = .running))
  ∧ (∀ (s : State), s.nothingDue → s.main.relayoutDue = true → s.main.state = .fadingOut →
    (∀ i ∈ s.render.present, (s.channel i).current ≤ -900) → s.link.opState ≠ .waking → s.tuner.state ≠ .hushing →
    let x := s.main
    ∃ t, exec (.fadeOutCompletion .main) s = .next t ∧ laid s t ∧ t.zone = s.zone ∧ t.sources = s.sources ∧ t.now = s.now
      ∧ (x.purpose = some .standby → t.main.state = .silent ∧ t.main.selected = x.pending.getD x.selected
          ∧ t.main.pending = none)
      ∧ (x.purpose = some .measure → t.main.state = .measure
          ∧ ∀ run, s.measure.run = some run → run.state = .preparing →
            t.measure.run.map (·.mask) = some (run.mask.filter (· ∈ t.render.present)))
      ∧ ∀ dest : Option (Fin 12),
        (x.purpose = some .switch ∧ dest = x.pending.getD x.selected)
          ∨ ((x.purpose = some .relayout ∨ x.purpose = some .hold) ∧ dest = x.selected) →
        t.main.selected = dest ∧ t.main.pending = none ∧ t.main.purpose = none
        ∧ (dest = none → t.main.state = .silent)
        ∧ ∀ i, dest = some i → t.main.state = (if judge s i = none then .playing else .waiting)
          ∧ ∀ (k : Fin 8) (j : Fin 12), j ∉ t.render.present → (t.render.lanes.get k).get j = 0)
  ∧ ∀ (s : State) (tag : Byte) (run : Run), s.serves tag → s.main.relayoutDue = true → s.main.state = .measure →
    s.measure.run = some run → run.state ≠ .restoring → s.tuner.state ≠ .hushing →
    let sel := s.main.pending.getD s.main.selected
    (s.link.opState = .running →
      ∃ t, exec (.measureStop tag) s = .next t ∧ laid s t ∧ t.measure.run.map (·.state) = some .restoring ∧ s.linesSilent t
        ∧ t.main.selected = sel ∧ t.main.pending = none ∧ t.main.purpose = none
        ∧ (sel = none → t.main.state = .silent)
        ∧ ∀ i, sel = some i → t.main.state = (if judge s i = none then .playing else .waiting) ∧ t.main.reason = judge s i
          ∧ ∀ (k : Fin 8) (j : Fin 12), j ∉ t.render.present → (t.render.lanes.get k).get j = 0)
    ∧ (s.link.opState = .quieting →
      ∃ t, exec (.measureStop tag) s = .next t ∧ laid s t ∧ t.measure.run.map (·.state) = some .restoring ∧ s.linesSilent t
        ∧ t.main.state = .fadingOut ∧ t.main.purpose = some .standby ∧ t.main.selected = s.main.selected
        ∧ t.main.pending = s.main.pending)

/-! ## Layouts and rendering (chapter 3) -/

/-- LAYOUT_SET checks a layout, takes the nearest crossover of the list, makes FL and FR LARGE without a subwoofer and stores
it; ZONE_AMP stores the assignment. Either raises a re-layout request when the value differs from the one in force or from the
one it replaced, which fades a PLAYING MAIN; a refusal changes nothing (R33, R41, R64, R113, R194, R196, R197). That ZONE_AMP
checks its value before BUSY is the model's choice (log entry 20). -/
def Obligations.LayoutAndZoneRequests : Prop :=
  ∀ (s : State) (tag : Byte), s.serves tag →
    let due (u : State) (kind : Byte) (st : Status) (body : List Byte) : State :=
      if s.main.state = .playing then
        let y : Route := { s.main with
          relayoutDue := true, state := .fadingOut, purpose := some .relayout, pending := none, reason := none }
        emit .route (0 :: routeBytes .main y) ((u.onRoute .main fun _ => y).replied kind tag st body)
      else (u.onRoute .main fun x => { x with relayoutDue := true }).replied kind tag st body
    (∀ (slots : List RawSlot) (lfe : Byte) (raw : Fin 12 → RawSlot), slots = List.ofFn raw →
      let subwoofer (c : Byte) : Prop := c = 4 ∨ c = 5
      let valid : Prop :=
        (raw 0).position = 1 ∧ (raw 1).position = 2 ∧ lfe.toNat ≤ 1
        ∧ (∀ i, (raw i).position.toNat ≤ 13 ∧ ((raw i).position = 1 → i = 0) ∧ ((raw i).position = 2 → i = 1))
        ∧ (∀ i j, (raw i).position = (raw j).position → i = j ∨ (raw i).position = 0)
        ∧ ∀ i, (raw i).position = 0 ∨ subwoofer (raw i).position ∨ (raw i).size.toNat ≤ 1
      (s.measure.run ≠ none →
        exec (.layoutSet tag slots lfe) s = .next (s.replied 0x20 tag .busy (layoutBytes s.render.requested)))
      ∧ (¬valid → parseLayout raw lfe = none)
      ∧ (s.measure.run = none → ¬valid →
        exec (.layoutSet tag slots lfe) s = .next (s.replied 0x20 tag .badValue (layoutBytes s.render.requested)))
      ∧ (valid → ∀ l : Layout, l.lfeToMains = decide (lfe = 1) →
        (∀ i, labelCode (l.slots.get i).position = (raw i).position
          ∧ match (l.slots.get i).bass with
            | none => (raw i).position = 0 ∨ subwoofer (raw i).position
            | some (z, f) => ¬((raw i).position = 0 ∨ subwoofer (raw i).position)
              ∧ z = (if (raw i).size = 1 ∧ (i ≠ 0 ∧ i ≠ 1 ∨ ∃ j, subwoofer (raw j).position) then .small else .large)
              ∧ f ∈ [40, 60, 80, 90, 100, 110, 120, 150, 200]
              ∧ ∀ c ∈ [40, 60, 80, 90, 100, 110, 120, 150, 200],
                (((raw i).crossover.toNat : Int) - f).natAbs < (((raw i).crossover.toNat : Int) - c).natAbs
                  ∨ (((raw i).crossover.toNat : Int) - f).natAbs = (((raw i).crossover.toNat : Int) - c).natAbs ∧ c ≤ f) →
        let replaced : Bool := (List.finRange 12).any fun i =>
          match (l.slots.get i).bass with
          | none => false
          | some (z, f) => decide (f ≠ (raw i).crossover.toNat) || decide (sizeCode z ≠ (raw i).size)
        let status : Status := if replaced then .clamped else .ok
        let u := s.onRender fun r => { r with requested := l }
        parseLayout raw lfe = some (l, replaced)
        ∧ (s.measure.run = none → exec (.layoutSet tag slots lfe) s = .next (if l = s.render.inForce ∧ l = s.render.requested then
          u.replied 0x20 tag status (layoutBytes l) else due u 0x20 status (layoutBytes l)))))
    ∧ ∀ v : Byte,
      let stands := [flagCode s.protect.zoneRequested, flagCode s.protect.zoneInForce]
      (2 ≤ v.toNat → exec (.zoneAmp tag v) s = .next (s.replied 0x3A tag .badValue stands))
      ∧ (v.toNat < 2 → s.measure.run ≠ none → exec (.zoneAmp tag v) s = .next (s.replied 0x3A tag .busy stands))
      ∧ ∀ on : Bool, v = (if on then 1 else 0) → s.measure.run = none →
        let u := s.onProtect fun p => { p with zoneRequested := on }
        exec (.zoneAmp tag v) s = .next (if on = s.protect.zoneInForce ∧ on = s.protect.zoneRequested then
          u.replied 0x3A tag .ok [v, flagCode s.protect.zoneInForce]
          else due u 0x3A .ok [v, flagCode s.protect.zoneInForce])

/-- RENDER_MODE stores or removes the override, and with a source attached to MAIN the derivation falls due: at its event the
matrix is derived with the requested mode, by the placements and folds of DIRECT, of STEREO or of MATRIX, the steering
accumulators are reset, and a changed effective mode queues a ROUTE notice (R41, R50, R52, R54 to R57, R63, R66). And what a
frame makes of it: the frame that a converter gives, the matrix and the steered signals, bass routing with its filters, the gain
stage, the delay lines and the outputs, and the steering update at the end of the block (R39, R53, R56, R59, R60, R62, R63, R80,
R81), with the nine rows of filter coefficients that the formula of R59 gives, a crossover outside the list, which no layout
holds, filtering to 0. The record of the source is the one that the attach read (log entry 19); without a derivation that is due
the event cannot happen and changes nothing, and it is a command of its own beside the boundary (log entries 6 and 11). The
frame is stated as a block of one, with no event inside the block (log entry 10); a converter on an A port gives the frame that
it read at a write of the block (R40; log entry 21). -/
def Obligations.RenderModeTakesEffect : Prop :=
  (∀ (s : State) (tag b : Byte), s.serves tag →
    let shown (o : Option RenderMode) : List Byte :=
      (match o with
        | some m => [1, modeCode m]
        | none => [0, 0])
      ++ (match s.main.effMode with
        | some m => [1, modeCode m]
        | none => [0, 0])
    (5 ≤ b.toNat → exec (.renderMode tag b) s = .next (s.replied 0x22 tag .badValue (shown s.render.override)))
    ∧ ∀ o : Option RenderMode, b = (match o with
        | some m => modeCode m
        | none => 4) →
      exec (.renderMode tag b) s = .next ((s.onRender fun r =>
        { r with override := o, modeDue := r.modeDue || s.main.conv.input.isSome }).replied 0x22 tag .ok (shown o)))
  ∧ (∀ (s : State), s.nothingDue → s.render.modeDue = false → exec .renderModeTakeEffect s = .next s)
  ∧ (∀ (s : State), s.nothingDue → s.render.modeDue = true → s.main.conv.input = none →
    exec .renderModeTakeEffect s = .next (s.onRender fun r => { r with modeDue := false }))
  ∧ (∀ (s : State) (x : Source), s.nothingDue → s.render.modeDue = true → s.main.conv.input ≠ none →
    s.render.attached = some x →
    let asked := s.render.override.getD x.mode
    let mode : RenderMode :=
      if asked = .direct then .direct else if asked = .stereo then .stereo else if x.count = 2 then .matrix else .direct
    let y := { s.main with effMode := some mode }
    let position (j : Fin 12) : Label := (s.render.inForce.slots.get j).position
    let stands (p : Label) : Bool := s.render.present.any fun j => decide (position j = p)
    let one (p q : Label) (c : Int) : Int := if q = p then c else 0
    let zoneFold (l : Label) : Int × Int :=
      match l with
      | .fl => (16384, 0)
      | .fr => (0, 16384)
      | .c => (11585, 11585)
      | .sl | .bl | .tfl | .trl => (11585, 0)
      | .sr | .br | .tfr | .trr => (0, 11585)
      | .lfe | .sw1 | .sw2 | .unassigned => (0, 0)
    let fold (l q : Label) : Int :=
      match l with
      | .c => one .fl q 11585 + one .fr q 11585
      | .sl => if stands .bl then one .bl q 16384 else one .fl q 11585
      | .sr => if stands .br then one .br q 16384 else one .fr q 11585
      | .bl => if stands .sl then one .sl q 16384 else one .fl q 11585
      | .br => if stands .sr then one .sr q 16384 else one .fr q 11585
      | .tfl => one .fl q 11585
      | .tfr => one .fr q 11585
      | .trl => if stands .tfl then one .tfl q 16384 else if stands .sl then one .sl q 11585
          else if stands .bl then one .bl q 11585 else one .fl q 8192
      | .trr => if stands .tfr then one .tfr q 16384 else if stands .sr then one .sr q 11585
          else if stands .br then one .br q 11585 else one .fr q 8192
      | _ => 0
    let direct (l q : Label) : Int :=
      if l = .unassigned then 0
      else if l = .lfe then
        if stands .sw1 = true ∨ stands .sw2 = true then one .sw1 q 16384 + one .sw2 q 16384
        else if s.render.inForce.lfeToMains = true then one .fl q 8192 + one .fr q 8192
        else 0
      else if stands l then one l q 16384
      else fold l q
    let surround (side back front q : Label) : Int :=
      if stands side then one side q 16384 + one back q 11585
      else if stands back then one back q 16384
      else one front q 11585
    let steer (k : Fin 5) (q : Label) : Int :=
      match k with
      | 0 => one .fl q 16384
      | 1 => one .fr q 16384
      | 2 => if stands .c then one .c q 16384 else one .fl q 11585 + one .fr q 11585
      | 3 => surround .sl .bl .fl q
      | 4 => surround .sr .br .fr q
    ∃ t, exec .renderModeTakeEffect s = .next t
      ∧ t = (if s.main.effMode = some mode then { s with render := t.render, main := y }
        else emit .route (0 :: routeBytes .main y) { s with render := t.render, main := y })
      ∧ t.render = { s.render with
          modeDue := false, energySum := 0, energyDiff := 0, steerC := 8192, steerS := 8192
          lanes := t.render.lanes, feeds := t.render.feeds }
      ∧ (∀ (k : Fin 8) (j : Fin 12), j ∉ s.render.present ∨ x.count ≤ k.1 ∨ mode = .matrix → (t.render.lanes.get k).get j = 0)
      ∧ (∀ (k : Fin 5) (j : Fin 12), j ∉ s.render.present ∨ mode ≠ .matrix → (t.render.feeds.get k).get j = 0)
      ∧ (mode = .stereo → ∀ (k : Fin 8), k.1 < x.count → 0 ∈ s.render.present → 1 ∈ s.render.present →
          let row := t.render.lanes.get k
          let c := zoneFold (x.layout.getD k.1 .unassigned)
          row.get 0 = c.1 ∧ row.get 1 = c.2 ∧ ∀ j, j ≠ 0 → j ≠ 1 → row.get j = 0)
      ∧ (0 ∈ s.render.present → 1 ∈ s.render.present → position 0 = .fl → position 1 = .fr →
          (∀ i ∈ s.render.present, position i ≠ .unassigned ∧ ∀ j ∈ s.render.present, position i = position j → i = j) →
        (mode = .direct → ∀ (k : Fin 8) (l : Label), k.1 < x.count → x.layout[k.1]? = some l → l ≠ .sw1 → l ≠ .sw2 →
          ∀ j ∈ s.render.present, (t.render.lanes.get k).get j = direct l (position j))
        ∧ (mode = .matrix → ∀ k, ∀ j ∈ s.render.present, (t.render.feeds.get k).get j = steer k (position j))))
  ∧ ∀ (s : State) (m z : List Int), s.nothingDue → s.measure.run = none → s.gain.burst = none →
    s.render.modeDue = false → s.main.relayoutDue = false → s.main.state ≠ .fadingOut → s.zone.state ≠ .fadingOut →
    (∀ i, (s.channel i).marked = false ∧ (s.channel i).redelay = false ∧ (s.channel i).early = []) → s.gain.zoneEarly = [] →
    let r := s.render
    let sat (v : Int) : Int := max (-8388608) (min 8388607 v)
    let passes (c : Converter) : Prop := ∃ i, c.input = some i ∧ 6 ≤ i.port.1
    let gives (c : Converter) (n : Nat) (out : List Int) : Prop := out.length = n
      ∧ (c.state ≠ .running → out = List.replicate n 0)
      ∧ (c.state = .running → passes c → out = c.given.headD (List.replicate n 0))
      ∧ (c.state = .running → ¬passes c → c.fifo = [] → out = List.replicate n 0)
      ∧ (∀ a, c.state = .running → ¬passes c → c.fifo = [a] → out = a)
      ∧ ∀ a b more, c.state = .running → ¬passes c → c.fifo = a :: b :: more → a.length = n ∧ b.length = n
        ∧ ∀ k < n, out.getD k 0 = a.getD k 0 + roundDiv ((b.getD k 0 - a.getD k 0) * c.phase) 16777216
    let advances (c d : Converter) : Prop :=
      (c.state ≠ .running → d = c)
      ∧ (c.state = .running → passes c → d = { c with given := c.given.drop 1, step := c.baseStep })
      ∧ (c.state = .running → ¬passes c →
        let left := c.fifo.drop ((c.phase + c.step) / 16777216)
        (c.fifo = [] → d = { c with state := .filling })
        ∧ (c.fifo ≠ [] → d.fifo = left ∧ d.phase = (c.phase + c.step) % 16777216 ∧ d.input = c.input
          ∧ d.baseStep = c.baseStep ∧ (left = [] → d.state = .filling)
          ∧ (left ≠ [] → d.state = .running
            ∧ (c.input ≠ none → d.step = (c.baseStep + ((c.baseStep : Int) * (left.length - 128)) / 65536).toNat))))
    let zoneSlot (i : Fin 12) : Prop := s.gain.zoneAssigned = true ∧ (i = 6 ∨ i = 7)
    let steering : Prop := s.main.conv.input ≠ none ∧ s.main.effMode = some .matrix
    let half (v : Int) : Int := v / 2
    let sum := half (m.getD 0 0 + m.getD 1 0)
    let difference := half (m.getD 0 0 - m.getD 1 0)
    let centre := roundDiv (r.steerC * sum) 16384
    let surround := roundDiv (r.steerS * difference) 16384
    let signal (k : Fin 5) : Int :=
      match k with
      | 0 => m.getD 0 0 - centre
      | 1 => m.getD 1 0 - centre
      | 2 => centre
      | 3 => surround
      | 4 => -surround
    let mixed (i : Fin 12) : Int := sat (roundDiv
      (((List.finRange 8).map fun k => (r.lanes.get k).get i * m.getD k.1 0).sum
        + ((List.finRange 5).map fun k => (r.feeds.get k).get i * signal k).sum) 16384)
    let lowPassOf (f : Nat) : Int × Int × Int × Int :=
      match f with
      | 40 => (7332, 14664, -2139532835, 1065820340)
      | 60 => (16467, 32934, -2135557497, 1061881540)
      | 80 => (29221, 58441, -2131582238, 1057957296)
      | 90 => (36948, 73897, -2129594647, 1056000616)
      | 100 => (45573, 91146, -2127607086, 1054047555)
      | 110 => (55093, 110186, -2125619558, 1052098106)
      | 120 => (65505, 131010, -2123632067, 1050152262)
      | 150 => (102070, 204140, -2117669842, 1044336297)
      | 200 => (180629, 361258, -2107733822, 1034714513)
      | _ => (0, 0, 0, 0)
    let filtered (f : Nat) (v : Int) (u w : Section) : Prop :=
      let k := lowPassOf f
      w = ⟨v, u.x1, (k.1 * v + k.2.1 * u.x1 + k.1 * u.x2 - k.2.2.1 * u.y1 - k.2.2.2 * u.y2) / 1073741824, u.y1⟩
    gives s.main.conv 8 m → gives s.zone.conv 2 z →
    ∃ t, exec (.renderBlockBoundary [[]]) s = .next t
      ∧ advances s.main.conv t.main.conv ∧ advances s.zone.conv t.zone.conv
      ∧ t.render.bass.length = r.bass.length
      ∧ (∀ (n : Nat) (e e' : BassEntry), r.bass[n]? = some e → t.render.bass[n]? = some e' →
          e' = { e with first := e'.first, second := e'.second }
          ∧ filtered e.crossover (mixed e.slot) e.first e'.first ∧ filtered e.crossover e'.first.y1 e.second e'.second)
      ∧ (∀ i : Fin 12,
          let weight : Int :=
            if (r.inForce.slots.get i).position = .sw1 ∨ (r.inForce.slots.get i).position = .sw2 then 16384 else 11585
          let part (e : BassEntry) : Int := (if e.slot = i then -16384 else 0) + if i ∈ e.receivers then weight else 0
          let routed : Int := if i ∈ r.present then
              sat (roundDiv (16384 * mixed i + (t.render.bass.map fun e => part e * sat e.second.y1).sum) 16384)
            else 0
          let c := s.channel i
          let past : Prop := s.main.state = .measure ∧ ¬zoneSlot i
          let scaled := roundDiv ((if zoneSlot i then z.getD (i.1 % 2) 0 else routed) * c.coef) 1048576
          let left := sat (if c.active.inverted = true ∧ ¬past then -scaled else scaled)
          t.pins.slots.get i = (if past ∨ c.committed = 0 then left else c.line.getD (c.committed - 1) 0)
          ∧ (t.channel i).line
            = if i ∈ r.present then ((if past then 0 else left) :: c.line).take c.committed else c.line)
      ∧ t.pins.zone = (sat (roundDiv (z.getD 0 0 * s.gain.zoneCoef) 1048576), sat (roundDiv (z.getD 1 0 * s.gain.zoneCoef) 1048576))
      ∧ (¬steering → t.render = { r with bass := t.render.bass, blockSum := 0, blockDiff := 0 })
      ∧ (steering →
          let power := r.blockSum + sum.natAbs ^ 2
          let minus := r.blockDiff + difference.natAbs ^ 2
          t.render = { r with
            bass := t.render.bass, energySum := t.render.energySum, energyDiff := t.render.energyDiff
            steerC := t.render.steerC, steerS := t.render.steerS, blockSum := 0, blockDiff := 0 }
          ∧ (t.render.energySum : Int) = max 0 (r.energySum + ((power : Int) - r.energySum) / (2 ^ r.steerRate : Nat))
          ∧ (t.render.energyDiff : Int) = max 0 (r.energyDiff + ((minus : Int) - r.energyDiff) / (2 ^ r.steerRate : Nat))
          ∧ t.render.steerC = (if t.render.energySum + t.render.energyDiff = 0 then 8192
              else 16384 * t.render.energySum / (t.render.energySum + t.render.energyDiff))
          ∧ t.render.steerS = 16384 - t.render.steerC)

/-! ## Gain, delay and the channel table (chapter 4) -/

/-- A render-block boundary forms every target from its gain sum, moves every level toward its target by at most a step and
computes every coefficient; a slot with coefficient 0 and no delay delivers 0, from the frame on at which a mute acts when it
came inside the block. Stated where no load mark, no re-delay, no
re-layout, no burst, no run and no fade is under way; the model's clock moves on by 1 ms (R73, R74, R76, R78, R79, R80, R81;
the clock: log entry 6). The block is rendered at its end (log entry 10). -/
def Obligations.BoundaryMovesTheLevels : Prop :=
  ∀ (s : State) (block : List (List PortFrame)), s.nothingDue → s.measure.run = none → s.gain.burst = none →
    s.render.modeDue = false → s.main.relayoutDue = false → s.main.state ≠ .fadingOut → s.zone.state ≠ .fadingOut →
    (∀ i, (s.channel i).marked = false ∧ (s.channel i).redelay = false) →
    let clamp (x : Int) : Int := max (-1000) (min 180 x)
    let ramp (target c : Int) : Int := if target < c then max target (c - s.gain.downStep) else min target (c + s.gain.upStep)
    let zoneSum (a : Int) : Int :=
      if s.zone.state = .playing ∧ s.gain.zoneMute = false then clamp (s.gain.zoneVolume + s.gain.zoneTrim + a) else -1000
    let zoneSlot (i : Fin 12) : Prop := s.gain.zoneAssigned = true ∧ (i = 6 ∨ i = 7)
    let target (i : Fin 12) : Int :=
      if zoneSlot i then zoneSum (s.group 3).attenuation
      else if i ∈ s.render.present then
        if s.main.state = .playing ∧ s.gain.mainMute = false then
          clamp (s.gain.mainVolume + s.gain.mainTrim + (s.channel i).active.trim + (s.group (groupOf i)).attenuation)
        else -1000
      else -1000
    ∃ t, exec (.renderBlockBoundary block) s = .next t ∧ t.now = s.now + 1
      ∧ (∀ i, (t.channel i).target = target i
          ∧ (t.channel i).current
            = (if (s.group (groupOf i)).state = .on then ramp (target i) (s.channel i).current else -1000)
          ∧ (t.channel i).coef
            = (if (s.group (groupOf i)).state = .on ∧ (i ∈ s.render.present ∨ zoneSlot i) then gainLaw (t.channel i).current
              else 0)
          ∧ (t.channel i).active = (s.channel i).active ∧ (t.channel i).pending = (s.channel i).pending
          ∧ (t.channel i).committed = (s.channel i).committed ∧ (t.channel i).allocated = (s.channel i).allocated)
      ∧ t.gain.zoneTarget = zoneSum 0 ∧ t.gain.zoneCurrent = ramp (zoneSum 0) s.gain.zoneCurrent
      ∧ t.gain.zoneCoef = gainLaw t.gain.zoneCurrent
      ∧ (block ≠ [] → ∀ i, (s.channel i).coef = 0 → (∀ e ∈ (s.channel i).early, e.1 < block.length) →
          (s.channel i).committed = 0 → t.pins.slots.get i = 0)
      ∧ t.gain.mainVolume = s.gain.mainVolume ∧ t.gain.zoneVolume = s.gain.zoneVolume ∧ t.render.inForce = s.render.inForce
      ∧ t.render.present = s.render.present ∧ t.main = { s.main with conv := t.main.conv }
      ∧ t.zone = { s.zone with conv := t.zone.conv } ∧ t.sources = s.sources ∧ t.protect = s.protect ∧ t.measure = s.measure
      ∧ t.tuner = s.tuner ∧ t.bus = s.bus ∧ t.link.opState = s.link.opState ∧ t.link.requests = s.link.requests

/-- The load at a boundary copies the pending half of every marked slot and clears the marks, and a changed distance of a
present slot makes the allocation afresh; the re-delay check commits the waiting delays together once all their slots are
silent (R69, R82, R83). The two commands stand for these parts of a boundary (log entry 11), and at the commit the delay line of
every slot in REDELAY is cleared, also of one that returns unchanged (log entry 20). -/
def Obligations.LoadAndRedelay : Prop :=
  (∀ (s : State), s.nothingDue →
    let loaded (c : Channel) : Channel := if c.marked then { c with active := c.pending, marked := false } else c
    let moved : Prop := ∃ i ∈ s.render.present,
      (s.channel i).marked = true ∧ (s.channel i).pending.distance ≠ (s.channel i).active.distance
    (¬moved → exec .loadTransfer s
      = .next (s.onGain fun g => { g with channels := g.channels.mapIdx fun _ c => loaded c }))
    ∧ (moved → ∀ most : Nat,
      (∃ i ∈ s.render.present, (loaded (s.channel i)).active.distance = most) →
      (∀ i ∈ s.render.present, (loaded (s.channel i)).active.distance ≤ most) →
      ∃ t, exec .loadTransfer s = .next t
        ∧ t = { s with gain := t.gain, main := { s.main with limited := t.main.limited }, link := t.link }
        ∧ (∀ i, (t.channel i).active = (loaded (s.channel i)).active ∧ (t.channel i).marked = false
            ∧ (t.channel i).pending = (s.channel i).pending ∧ (t.channel i).current = (s.channel i).current)
        ∧ (∀ i ∈ s.render.present,
            ((t.channel i).allocated : Int)
              = roundDiv (48000 * (most - (t.channel i).active.distance)) 34300 + t.gain.lipFrames
            ∧ (t.channel i).committed = (s.channel i).committed
            ∧ (t.channel i).redelay = ((s.channel i).redelay || decide ((t.channel i).allocated ≠ (s.channel i).committed)))
        ∧ (∀ i, i ∉ s.render.present → (t.channel i).allocated = 0 ∧ (t.channel i).committed = 0
            ∧ (t.channel i).redelay = false)
        ∧ (t.gain.demand ≤ 196608 → t.gain.lipFrames = 48 * (s.gain.mainLip + s.gain.userLip) ∧ t.main.limited = false)
        ∧ (196608 < t.gain.demand → t.main.limited = true)))
  ∧ ∀ (s : State), s.nothingDue →
    let due : Prop := (∃ i, (s.channel i).redelay = true) ∧ ∀ i, (s.channel i).redelay = true → (s.channel i).current ≤ -900
    (¬due → exec .redelayCommit s = .next s)
    ∧ (due → exec .redelayCommit s = .next (s.onGain fun g =>
      { g with channels := g.channels.mapIdx fun _ c =>
        if c.redelay then { c with committed := c.allocated, redelay := false, line := [] } else c }))

/-- VOLUME, VOLUME_STEP and MUTE: the value is rounded to 0.5 dB and clamped to the range of the route, the reply shows it,
and a change queues one VOLUME notice with cause REQUEST; an unknown route is refused (R70, R84 to R86; the bytes of an
unknown route: log entry 2). -/
def Obligations.VolumeAndMuteRequests : Prop :=
  ∀ (s : State) (tag : Byte), s.serves tag →
    let set (r : RouteId) (v : Int) (m : Bool) : State := s.onGain fun g =>
      match r with
      | .main => { g with mainVolume := v, mainMute := m }
      | .zone => { g with zoneVolume := v, zoneMute := m }
    let notice (r : RouteId) (v : Int) (m : Bool) (u : State) : State :=
      if s.volume r = v ∧ s.muted r = m then u else emit .route ([1, routeCode r] ++ s16 v ++ [if m then 1 else 0, 0]) u
    let asked (kind : Byte) (r : RouteId) (v : Int) : State :=
      let c : Int := max (-800) (min (if r = .main then 150 else 0) v)
      notice r c (s.muted r)
        ((set r c (s.muted r)).replied kind tag (if c = v then .ok else .clamped) (routeCode r :: s16 c))
    (∀ (r : RouteId) (value : Word16) (steps : Byte),
      exec (.volume tag (routeCode r) value) s = .next (asked 0x28 r (5 * roundDiv value.toInt 5))
      ∧ exec (.volumeStep tag (routeCode r) steps) s = .next (asked 0x29 r (s.volume r + 5 * steps.toInt)))
    ∧ (∀ (r : RouteId) (m : Bool), exec (.mute tag (routeCode r) (if m then 1 else 0)) s
      = .next (notice r (s.volume r) m ((set r (s.volume r) m).replied 0x2A tag .ok [routeCode r, if m then 1 else 0])))
    ∧ (∀ (r : RouteId) (v : Byte), 2 ≤ v.toNat → exec (.mute tag (routeCode r) v) s
      = .next (s.replied 0x2A tag .badValue [routeCode r, if s.muted r then 1 else 0]))
    ∧ ∀ (b v steps : Byte) (value : Word16), 2 ≤ b.toNat →
      let refused (kind : Byte) (n : Nat) : State :=
        { s with free := s.free + n }.replied kind tag .badValue (b :: freeBytes n s.free)
      exec (.volume tag b value) s = .next (refused 0x28 2) ∧ exec (.volumeStep tag b steps) s = .next (refused 0x29 2)
        ∧ exec (.mute tag b v) s = .next (refused 0x2A 1)

/-- CHANNEL_SET writes the pending half with its distance and trim clamped, and with IMMEDIATE sets the load mark; LOAD sets
the marks of its slots (R69, R87, R89, R194). -/
def Obligations.ChannelSetAndLoad : Prop :=
  ∀ (s : State) (tag : Byte), s.serves tag →
    (∀ (b polarity immediate : Byte) (distance trim : Word16),
      (b = 0 ∨ 12 < b.toNat →
        exec (.channelSet tag b distance trim polarity immediate) s = .next (s.replied 0x2B tag .notFound []))
      ∧ ∀ i : Fin 12, b.toNat = i.1 + 1 →
        let c := s.channel i
        let h : Half := ⟨min distance.toNat 1800, max (-120) (min 120 trim.toInt), decide (polarity = 1)⟩
        let status : Status := if h.distance = distance.toNat ∧ h.trim = trim.toInt then .ok else .clamped
        (2 ≤ polarity.toNat ∨ 2 ≤ immediate.toNat →
          exec (.channelSet tag b distance trim polarity immediate) s
            = .next (s.replied 0x2B tag .badValue (b :: halfBytes c.pending)))
        ∧ (polarity.toNat < 2 → immediate = 1 → s.measure.run ≠ none →
          exec (.channelSet tag b distance trim polarity immediate) s
            = .next (s.replied 0x2B tag .busy (b :: halfBytes c.pending)))
        ∧ (polarity.toNat < 2 → immediate.toNat < 2 → immediate = 0 ∨ s.measure.run = none →
          exec (.channelSet tag b distance trim polarity immediate) s
            = .next ((s.onChannel i fun c => { c with pending := h, marked := c.marked || decide (immediate = 1) }).replied
              0x2B tag status (b :: halfBytes h))))
    ∧ ∀ slots : Word16,
      let marks : State := s.onGain fun g =>
        { g with channels := g.channels.mapIdx fun i c => { c with marked := c.marked || slots.getLsbD i.1 } }
      (slots = 0 ∨ (4096 ≤ slots.toNat ∧ slots ≠ 0xFFFF) →
        exec (.load tag slots) s = .next (s.replied 0x2D tag .badValue (u16 (maskOf (markedSlots s)))))
      ∧ (slots ≠ 0 → slots.toNat < 4096 ∨ slots = 0xFFFF →
        exec (.load tag slots) s = .next (marks.replied 0x2D tag .ok (u16 (maskOf (markedSlots marks)))))

/-- RAMP_SET, STEER_SET and LIPSYNC clamp and store their values; a LIPSYNC that changes the value makes the delay allocation
afresh (R67, R82, R83, R90, R91). -/
def Obligations.RampSteerAndLipsync : Prop :=
  ∀ (s : State) (tag : Byte), s.serves tag →
    let clamp (lo hi x : Nat) : Nat := max lo (min hi x)
    (∀ down up : Byte,
      let d := clamp 1 50 down.toNat
      let u := clamp 1 50 up.toNat
      exec (.rampSet tag down up) s = .next ((s.onGain fun g => { g with downStep := d, upStep := u }).replied 0x2E tag
        (if d = down.toNat ∧ u = up.toNat then .ok else .clamped) [BitVec.ofNat 8 d, BitVec.ofNat 8 u]))
    ∧ (∀ k : Byte,
      let v := clamp 2 8 k.toNat
      exec (.steerSet tag k) s = .next ((s.onRender fun r => { r with steerRate := v }).replied 0x23 tag
        (if v = k.toNat then .ok else .clamped) [BitVec.ofNat 8 v]))
    ∧ ∀ value : Word16,
      let v := min value.toNat 250
      let status : Status := if v = value.toNat then .ok else .clamped
      let shown (t : State) : List Byte :=
        [BitVec.ofNat 8 v, BitVec.ofNat 8 s.gain.mainLip] ++ u32 t.gain.lipFrames ++ u32 t.gain.demand
          ++ [if t.main.limited then 1 else 0]
      (v = s.gain.userLip → exec (.lipsync tag value) s = .next (s.replied 0x2F tag status (shown s)))
      ∧ (v ≠ s.gain.userLip →
        ∃ t, exec (.lipsync tag value) s = .next t
          ∧ t = { s with gain := t.gain, main := { s.main with limited := t.main.limited }, link := t.link }
          ∧ t.gain.userLip = v ∧ t.gain.mainLip = s.gain.mainLip ∧ t.gain.mainVolume = s.gain.mainVolume
          ∧ t.link.outbound.take (s.link.outbound.length + 1)
            = s.link.outbound ++ [⟨.reply, 0xAF, tag, statusCode status :: shown t⟩]
          ∧ (∀ i, (t.channel i).active = (s.channel i).active ∧ (t.channel i).pending = (s.channel i).pending
              ∧ (t.channel i).current = (s.channel i).current)
          ∧ (∀ i ∈ s.render.present, (t.channel i).allocated = slotAlign s i + t.gain.lipFrames
              ∧ (t.channel i).committed = (s.channel i).committed
              ∧ (t.channel i).redelay
                = ((s.channel i).redelay || decide ((t.channel i).allocated ≠ (s.channel i).committed)))
          ∧ t.gain.demand = alignSum s + s.render.present.length * (48 * (s.gain.mainLip + v))
          ∧ (t.gain.demand ≤ 196608 → t.gain.lipFrames = 48 * (s.gain.mainLip + v) ∧ t.main.limited = false)
          ∧ (196608 < t.gain.demand →
              t.gain.lipFrames = (196608 - alignSum s) / s.render.present.length ∧ t.main.limited = true))

/-- ENCODER_SET enables, disables and clears; an enabled encoder counts each change along or against the cycle, marks a change
of both lines as an error, and at four counts moves the main volume by 0.5 dB with a notice of cause ENCODER (R70 to R72,
R92). A disabled one ignores the lines. -/
def Obligations.EncoderCountsAndSteps : Prop :=
  (∀ (s : State) (tag enable clear : Byte), s.serves tag →
    let e := s.gain.encoder
    (2 ≤ enable.toNat ∨ 2 ≤ clear.toNat → exec (.encoderSet tag enable clear) s
      = .next (s.replied 0x30 tag .badValue (flagCode e.enabled :: s8 e.count ++ u16 e.errors)))
    ∧ (enable.toNat < 2 → clear.toNat < 2 →
      let now : Encoder :=
        if e.enabled = decide (enable = 1) then e
        else if enable = 1 then { e with enabled := true, refA := s.pins.encA, refB := s.pins.encB, count := 0 }
        else { e with enabled := false, count := 0 }
      exec (.encoderSet tag enable clear) s
        = .next ((s.onGain fun g => { g with encoder := { now with errors := if clear = 1 then 0 else e.errors } }).replied
          0x30 tag .ok (enable :: s8 now.count ++ u16 e.errors))))
  ∧ ∀ (s : State) (a b : Bool), s.nothingDue →
    let e := s.gain.encoder
    let cycle : List ((Bool × Bool) × (Bool × Bool)) :=
      [((false, false), (true, false)), ((true, false), (true, true)), ((true, true), (false, true)),
       ((false, true), (false, false))]
    let lines := s.onPins fun p => { p with encA := a, encB := b }
    let count : Int :=
      if ((e.refA, e.refB), (a, b)) ∈ cycle then e.count + 1 else if ((a, b), (e.refA, e.refB)) ∈ cycle then e.count - 1
      else e.count
    let errors := if a ≠ e.refA ∧ b ≠ e.refB then min (e.errors + 1) 65535 else e.errors
    let counted (n : Int) : State := lines.onGain fun g => { g with encoder := ⟨e.enabled, a, b, n, errors⟩ }
    let step (v : Int) : State :=
      if v = s.gain.mainVolume then counted 0
      else emit .route ([1, 0] ++ s16 v ++ [if s.gain.mainMute then 1 else 0, 1])
        ((counted 0).onGain fun g => { g with mainVolume := v })
    (e.enabled = false → exec (.encoderLineChange a b) s = .next lines)
    ∧ (e.enabled = true → exec (.encoderLineChange a b) s = .next (
        if 4 ≤ count then step (max (-800) (min 150 (s.gain.mainVolume + 5)))
        else if count ≤ -4 then step (max (-800) (min 150 (s.gain.mainVolume - 5)))
        else counted count))

/-- The decibel arithmetic: a coefficient is the rounded power of two of R78, its table and the ADC's gain factors are the
nearest integers to their powers of two, and the logarithm of a peak is the nearest integer too (R17, R78, R120). -/
def Obligations.DecibelArithmeticIsRounded : Prop :=
  (∀ c : Int, c ≤ -900 → gainLaw c = 0)
  ∧ (∀ (c q : Int) (r t : Nat), -900 < c → c = 60 * q + r → r < 60 →
      (2 * t - 1) ^ 60 < 2 ^ (1260 + r) → 2 ^ (1260 + r) < (2 * t + 1) ^ 60 →
      gainLaw c = if 0 ≤ q then t * 2 ^ q.toNat else (t + 2 ^ ((-q).toNat - 1)) / 2 ^ (-q).toNat)
  ∧ (∀ c d : Int, c ≤ d → gainLaw c ≤ gainLaw d) ∧ gainLaw 180 = 8388608
  ∧ (∀ c : Byte, (2 * trimGain c - 1) ^ 120 < 2 ^ (2648 - c.toNat) ∧ 2 ^ (2648 - c.toNat) < (2 * trimGain c + 1) ^ 120)
  ∧ ∀ p : Nat, 1 ≤ p → 2 ^ (2 * logTenths p) ≤ 2 * p ^ 120 ∧ p ^ 120 < 2 ^ (2 * logTenths p + 1)

/-! ## Amplifier groups and protection (chapter 5) -/

/-- PROTECT_SET checks the sensor addresses, clamps and stores the settings, raises every attenuation below the new floor, and
clears the sensor fields of a group whose sensor address changes; a refusal changes nothing (R111). The reply shows the settings
as R196 says, and a group that changes has the one notice of R110: STATE before SENSOR before ATTENUATION, the last for a change
of 1.0 dB or more from the reported attenuation, with the group as it then stands (R110, R196, R198). The order of several
notices is the model's (log entry 12), and that an address changes before the floor does, so that a lost sensor does not set the
attenuation to it, is the model's choice too (log entry 20). -/
def Obligations.ProtectSetStoresTheSettings : Prop :=
  ∀ (s : State) (tag warn trip margin : Byte) (floor : Word16) (debounce limit : Byte) (sensors : List Byte)
      (address : Fin 6 → Byte), s.serves tag → sensors = List.ofFn address →
    let clamp (lo hi x : Nat) : Nat := max lo (min hi x)
    let w := clamp 60 110 warn.toNat
    let p : ProtectSettings :=
      ⟨w, clamp (w + 5) 120 trip.toNat, clamp 2 20 margin.toNat, max (-400) (min (-30) floor.toInt), clamp 1 20 debounce.toNat,
        clamp 1 8 limit.toNat⟩
    let new (g : Fin 6) : Option (BitVec 7) := if address g = 0xFF then none else some ((address g).setWidth 7)
    let bad : Prop := ∃ g, address g ≠ 0xFF ∧ (128 ≤ (address g).toNat ∨ new g = some s.tuner.settings.address)
    let held : Prop := ∃ g, (s.group g).state = .faultWait ∧ (s.group g).cause = .thermal ∧ (s.group g).sensor ≠ none
      ∧ (s.group g).sensor ≠ new g
    let status : Status :=
      if p.warn = warn.toNat ∧ p.trip = trip.toNat ∧ p.margin = margin.toNat ∧ p.floor = floor.toInt ∧ p.debounce = debounce.toNat
        ∧ p.limit = limit.toNat then .ok else .clamped
    let run := exec (.protectSet tag warn trip margin floor debounce limit sensors) s
    protectSetBytes s = settingsBytes s.protect.settings ++ (List.finRange 6).map (fun g => match (s.group g).sensor with
      | some a => a.setWidth 8
      | none => 0xFF)
    ∧ (∀ q : ProtectSettings, settingsBytes q = [BitVec.ofNat 8 q.warn, BitVec.ofNat 8 q.trip, BitVec.ofNat 8 q.margin]
      ++ s16 q.floor ++ [BitVec.ofNat 8 q.debounce, BitVec.ofNat 8 q.limit])
    ∧ (bad → run = .next (s.replied 0x38 tag .badValue (protectSetBytes s)))
    ∧ (¬bad → held → run = .next (s.replied 0x38 tag .busy (protectSetBytes s)))
    ∧ (¬bad → ¬held →
      ∃ t, run = .next t ∧ t = { s with protect := t.protect, link := t.link } ∧ t.protect.settings = p
        ∧ t.protect.zoneRequested = s.protect.zoneRequested ∧ t.protect.startQueue = s.protect.startQueue
        ∧ t.protect.polling = s.protect.polling ∧ t.protect.tick = s.protect.tick
        ∧ (∀ g, t.group g = { s.group g with
            sensor := new g
            failRun := if (s.group g).sensor = new g then (s.group g).failRun else 0
            sensorLost := (s.group g).sensorLost && decide ((s.group g).sensor = new g)
            lastTemp := if (s.group g).sensor = new g then (s.group g).lastTemp else none
            attenuation :=
              if (s.group g).sensorLost = true ∧ (s.group g).sensor = new g then p.floor
              else max p.floor (if (s.group g).sensor ≠ new g ∧ new g = none then 0 else (s.group g).attenuation)
            reported := (t.group g).reported }
          ∧ (t.group g).reported = toldAttenuation (s.group g) (t.group g))
        ∧ t.link = (s.tellsGroups t (s.replied 0x38 tag status (settingsBytes p ++ sensors))).link
        ∧ t.link.outbound.take (s.link.outbound.length + 1)
          = s.link.outbound ++ [⟨.reply, 0xB8, tag, statusCode status :: settingsBytes p ++ sensors⟩])

/-- PROTECT_READ shows the unit as it stands, and with the clear flag 1 the three counters of every group are then 0;
FAULT_CLEAR takes a LATCHED group of its mask to OFF, or on to its start when the part needs it, and closes the fault window of
any other, with one notice for each group that it changes (R93, R110, R112, R114, R194, R196 to R198). The window of
PROTECT_READ is told on the model's clock (log entry 6) in four bytes (log entry 15), the start queue is sent as the model's
list of groups (log entry 8), and the order of several notices is the model's (log entry 12). -/
def Obligations.ProtectReadAndFaultClear : Prop :=
  ∀ (s : State) (tag b : Byte), s.serves tag →
    (let x := s.protect
      let p := x.settings
      protectReadBytes s = [BitVec.ofNat 8 p.warn, BitVec.ofNat 8 p.trip, BitVec.ofNat 8 p.margin] ++ s16 p.floor
        ++ [BitVec.ofNat 8 p.debounce, BitVec.ofNat 8 p.limit, flagCode x.zoneRequested, flagCode x.zoneInForce]
        ++ BitVec.ofNat 8 x.startQueue.length :: x.startQueue.map number ++ List.replicate (6 - x.startQueue.length) 0
        ++ ((List.finRange 6).map fun g =>
          let c := s.group g
          [groupStateCode c.state, groupCauseCode c.cause, BitVec.ofNat 8 c.faultCount]
            ++ (match c.windowStart with
              | some at0 => 1 :: u32 (min (s.now - at0) 4294967295)
              | none => [0, 0, 0, 0, 0])
            ++ s16 c.attenuation ++ s16 c.reported
            ++ [match c.sensor with
              | some a => a.setWidth 8
              | none => 0xFF]
            ++ (match c.lastTemp with
              | some degrees => [1, BitVec.ofInt 8 degrees]
              | none => [0, 0])
            ++ u16 c.failRun ++ [flagCode c.sensorLost, flagCode c.coolSeen, flagCode c.needed]
            ++ u16 c.currentFaults ++ u16 c.thermalTrips ++ u16 c.pollFailures).flatten)
    ∧ (b = 0 → exec (.protectRead tag b) s = .next (s.replied 0x39 tag .ok (protectReadBytes s)))
    ∧ (b = 1 → exec (.protectRead tag b) s = .next ((s.onProtect fun p =>
        { p with groups := p.groups.mapIdx fun _ x =>
          { x with currentFaults := 0, thermalTrips := 0, pollFailures := 0 } }).replied 0x39 tag .ok (protectReadBytes s)))
    ∧ (2 ≤ b.toNat → exec (.protectRead tag b) s = .next (s.replied 0x39 tag .badValue (protectReadBytes s)))
    ∧ (b = 0 ∨ 64 ≤ b.toNat → exec (.faultClear tag b) s
        = .next (s.replied 0x3B tag .badValue (s.protect.groups.items.map fun x => groupStateCode x.state)))
    ∧ (b ≠ 0 → b.toNat < 64 →
      ∃ t, exec (.faultClear tag b) s = .next t ∧ t = { s with protect := t.protect, link := t.link }
        ∧ t.protect.settings = s.protect.settings
        ∧ t.link.outbound.take (s.link.outbound.length + 1)
          = s.link.outbound ++ [⟨.reply, 0xBB, tag, 0 :: t.protect.groups.items.map fun x => groupStateCode x.state⟩]
        ∧ t.link = (s.tellsGroups t (s.replied 0x3B tag .ok (t.protect.groups.items.map fun x => groupStateCode x.state))).link
        ∧ ∀ g : Fin 6,
          (b.getLsbD g.1 = false → t.group g = s.group g)
          ∧ (b.getLsbD g.1 = true → (s.group g).state ≠ .latched →
              t.group g = { s.group g with faultCount := 0, windowStart := none, window := none })
          ∧ (b.getLsbD g.1 = true → (s.group g).state = .latched →
              (t.group g).cause = .none ∧ (t.group g).faultCount = 0 ∧ (t.group g).windowStart = none
              ∧ (t.group g).attenuation = (s.group g).attenuation ∧ (t.group g).sensor = (s.group g).sensor
              ∧ ((s.group g).needed = false ∨ s.link.opState = .standby ∨ s.link.opState = .quieting →
                  (t.group g).state = .off)
              ∧ ((s.group g).needed = true → s.link.opState = .running ∨ s.link.opState = .waking →
                  ((t.group g).state = .powering ∧ (t.group g).driven = true)
                  ∨ ((t.group g).state = .off ∧ g ∈ t.protect.startQueue))))

/-- The spacing timer starts the lowest-numbered group of the start queue and runs on while the queue is not empty; the settle
timer takes a POWERING group to ON when its fault line is high, with the coefficients of its slots taken from their levels, and
to a counted fault when it is low. A settle that ends the last attempt of the start list makes the part RUNNING with the WAKE's
completion: DONE, or DEGRADED with the needed groups that are not ON (R79, R96 to R98, R101, R108, R185). Each change of the
group's state has its PROTECT notice (R110, R198). The clock and the spacing of the starts are the model's (log entries 6 and
15). -/
def Obligations.StartQueueAndSettle : Prop :=
  (∀ (s : State), s.protect.spacing = none → exec .spacingTimerExpiry s = .next s)
  ∧ (∀ (s : State) (d : Nat), s.nothingDue → s.protect.spacing = some d →
    let now := max s.now d
    (s.protect.startQueue = [] →
      exec .spacingTimerExpiry s = .next ({ s with now := now }.onProtect fun p => { p with spacing := none }))
    ∧ ∀ (g : Fin 6) (rest : List (Fin 6)), s.protect.startQueue = g :: rest → g ∉ rest →
      (s.group g).state = .off ∨ (s.group g).state = .faultWait →
      ∃ t, exec .spacingTimerExpiry s = .next t
        ∧ t = emit .protect (groupNoticeBytes 0 g (t.group g)) { s with protect := t.protect, now := now }
        ∧ t.group g = { s.group g with
            state := .powering, cause := .none, driven := true, settle := some (now + 200), retry := none
            readback := if (s.group g).driven then (s.group g).readback else (s.group g).readback ++ [now + 1]
            reported := (s.group g).attenuation }
        ∧ (∀ h, h ≠ g → t.group h = s.group h) ∧ t.protect.startQueue = rest ∧ t.protect.lastStart = some now
        ∧ t.protect.spacing = (if rest = [] then none else some (now + 50))
        ∧ t.link.requests = s.link.requests ∧ t.link.opState = s.link.opState)
  ∧ (∀ (s : State) (g : Fin 6) (high : Bool), (s.group g).state ≠ .powering ∨ (s.group g).settle = none →
    exec (.settleTimerExpiry g high) s = .next s)
  ∧ (∀ (s : State) (g : Fin 6) (d : Nat), s.nothingDue → s.link.opState ≠ .waking → s.measure.run = none →
    (s.group g).state = .powering → (s.group g).settle = some d →
    (∃ t, exec (.settleTimerExpiry g true) s = .next t
      ∧ t = emit .protect (groupNoticeBytes 0 g (t.group g)) { s with protect := t.protect, gain := t.gain, now := max s.now d }
      ∧ t.group g = { s.group g with state := .on, settle := none, reported := (s.group g).attenuation }
      ∧ (∀ h, h ≠ g → t.group h = s.group h)
      ∧ (∀ i, t.channel i = if i.1 / 2 = g.1 then { s.channel i with
            coef := if i ∈ s.render.present ∨ (s.gain.zoneAssigned = true ∧ (i = 6 ∨ i = 7)) then gainLaw (s.channel i).current
              else 0 } else s.channel i)
      ∧ t.gain = { s.gain with channels := t.gain.channels })
    ∧ ∃ t, exec (.settleTimerExpiry g false) s = .next t ∧ t.now = max s.now d ∧ (t.group g).driven = false
      ∧ t.link = (emit .protect (groupNoticeBytes 0 g (t.group g)) s).link
      ∧ (t.group g).state = (if s.protect.settings.limit ≤ (s.group g).faultCount + 1 then .latched else .faultWait)
      ∧ (t.group g).cause = .current ∧ (t.group g).faultCount = (s.group g).faultCount + 1 ∧ (t.group g).settle = none
      ∧ (∀ i : Fin 12, i.1 / 2 = g.1 → (t.channel i).current = -1000 ∧ (t.channel i).coef = 0)
      ∧ (∀ h, h ≠ g → t.group h = s.group h))
  ∧ ∀ (s : State) (g : Fin 6) (d : Nat) (tag : Byte) (l : List (Fin 6 × Bool)), s.nothingDue → s.link.opState = .waking →
    (s.group g).state = .powering → (s.group g).settle = some d → s.protect.startList = some l →
    (∀ e ∈ l, e.1 = g ∨ e.2 = true) → s.link.wakeTag = some tag → s.main.relayoutDue = false →
    ∃ t, exec (.settleTimerExpiry g true) s = .next t ∧ t.link.opState = .running ∧ t.link.wakeTag = none
      ∧ t.protect.startList = none ∧ (t.group g).state = .on ∧ (∀ h, h ≠ g → t.group h = s.group h)
      ∧ (∀ f : Frame, f = ⟨.completion, 0xE0, tag,
          [0x03, if ∀ h, (s.group h).needed = true → h = g ∨ (s.group h).state = .on then 0x00 else 0x03,
            BitVec.ofNat 8 (maskOf (allGroups.filter fun h => (s.group h).needed && decide (h ≠ g)
              && decide ((s.group h).state ≠ .on)))]⟩ → f ∈ t.link.outbound)
      ∧ (s.bus.state ≠ .busDown → t.tuner.state = .tuning ∧ t.tuner.frequency = s.tuner.frequency)

/-- The oldest readback check that is still to be made of a group is made: one that finds another level than the driven one
latches the group with cause LINE and mutes its slots, and the change of level asks for a check of its own; a matching one, or
one of a LATCHED group, changes nothing but the checks to come, and the latch has its PROTECT notice (R77, R95, R110, R198; the
LATCHED group: log entry 8). The clock, the frame at which a mute acts and the window start that stays in the record of the
group are the model's (log entries 6, 10 and 15). -/
def Obligations.ReadbackFindsALineFault : Prop :=
  (∀ (s : State) (g : Fin 6) (level : Bool), (s.group g).readback = [] → exec (.readbackCheck g level) s = .next s)
  ∧ ∀ (s : State) (g : Fin 6) (level : Bool) (d : Nat) (more : List Nat), s.nothingDue → (s.group g).readback = d :: more →
    ((s.group g).state = .latched ∨ level = (s.group g).driven →
      exec (.readbackCheck g level) s
        = .next ({ s with now := max s.now d }.onGroup g fun x => { x with readback := more }))
    ∧ ((s.group g).state ≠ .latched → level ≠ (s.group g).driven → s.link.opState ≠ .waking →
      ∃ t, exec (.readbackCheck g level) s = .next t ∧ t.now = max s.now d
        ∧ t = { s with
            protect := t.protect, gain := t.gain, measure := t.measure, link := t.link, now := t.now, free := t.free }
        ∧ t.group g = { s.group g with
            state := .latched, cause := .line, driven := false, settle := none, retry := none, window := none
            readback := if (s.group g).driven then more ++ [t.now + 1] else more, reported := (s.group g).attenuation }
        ∧ (∀ h, h ≠ g → t.group h = s.group h) ∧ g ∉ t.protect.startQueue
        ∧ (∀ i : Fin 12, i.1 / 2 = g.1 → (t.channel i).current = -1000 ∧ (t.channel i).coef = 0)
        ∧ t.link.requests = s.link.requests ∧ t.link.opState = s.link.opState
        ∧ (s.probesNoneOf g → t.link = (emit .protect (groupNoticeBytes 0 g (t.group g)) s).link))

/-- A falling edge of the fault line of a group that is POWERING or ON counts outside the debounce period: the group waits two
seconds, or latches at the limit, with its line low and its slots muted. The retry joins the start queue, after a thermal trip
only once the sensor has read cool, and waits while the part is QUIETING; the fault window clears the count (R101 to R103,
R106). Each change of the group's state has its PROTECT notice, outside the turn of a slot of the group (R110, R198). The clock,
the end of the debounce period and the spacing are the model's (log entries 6 and 15). -/
def Obligations.FaultsWaitRetryAndLatch : Prop :=
  (∀ (s : State) (g : Fin 6), ((s.group g).state ≠ .powering ∧ (s.group g).state ≠ .on) ∨ s.now < (s.group g).debounceEnd →
    exec (.faultEdge g) s = .next s)
  ∧ (∀ (s : State) (g : Fin 6), s.nothingDue → s.link.opState ≠ .waking →
    (s.group g).state = .powering ∨ (s.group g).state = .on → (s.group g).debounceEnd ≤ s.now →
    let n := (s.group g).faultCount + 1
    let latch : Prop := s.protect.settings.limit ≤ n
    ∃ t, exec (.faultEdge g) s = .next t
      ∧ t = { s with protect := t.protect, gain := t.gain, measure := t.measure, link := t.link, free := t.free }
      ∧ t.group g = { s.group g with
          state := if latch then .latched else .faultWait
          cause := .current, faultCount := n, currentFaults := min ((s.group g).currentFaults + 1) 65535
          windowStart := some ((s.group g).windowStart.getD s.now)
          window := if latch then none else if (s.group g).windowStart = none then some (s.now + 60000) else (s.group g).window
          settle := none, retry := if latch then none else some (s.now + 2000), driven := false
          readback := if (s.group g).driven then (s.group g).readback ++ [s.now + 1] else (s.group g).readback
          debounceEnd := s.now + s.protect.settings.debounce, reported := (s.group g).attenuation }
      ∧ (∀ h, h ≠ g → t.group h = s.group h)
      ∧ (∀ i : Fin 12, i.1 / 2 = g.1 → (t.channel i).current = -1000 ∧ (t.channel i).coef = 0)
      ∧ (s.measure.run = none → ∀ i : Fin 12, i.1 / 2 ≠ g.1 → t.channel i = s.channel i)
      ∧ t.link.requests = s.link.requests ∧ t.link.opState = s.link.opState
      ∧ (s.probesNoneOf g → t.link = (emit .protect (groupNoticeBytes 0 g (t.group g)) s).link))
  ∧ (∀ (s : State) (g : Fin 6), (s.group g).state ≠ .faultWait ∨ (s.group g).retry = none →
    exec (.retryTimerExpiry g) s = .next s)
  ∧ (∀ (s : State) (g : Fin 6) (d : Nat), s.nothingDue → (s.group g).state = .faultWait → (s.group g).retry = some d →
    let waited := { s with now := max s.now d }.onGroup g fun x => { x with retry := none }
    ((s.group g).cause = .thermal ∧ (s.group g).coolSeen = false ∨ s.link.opState = .quieting ∨ s.link.opState = .standby →
      exec (.retryTimerExpiry g) s = .next waited)
    ∧ ((s.group g).cause ≠ .thermal ∨ (s.group g).coolSeen = true → s.link.opState = .running ∨ s.link.opState = .waking →
      ∃ t, exec (.retryTimerExpiry g) s = .next t ∧ t = { s with protect := t.protect, link := t.link, now := max s.now d }
        ∧ (∀ h, h ≠ g → t.group h = s.group h)
        ∧ (s.protect.spacing = none → (∀ l, s.protect.lastStart = some l → l + 50 ≤ max s.now d) →
            (t.group g).state = .powering ∧ (t.group g).driven = true ∧ (t.group g).settle = some (max s.now d + 200)
              ∧ t.protect.lastStart = some (max s.now d)
              ∧ t.link = (emit .protect (groupNoticeBytes 0 g (t.group g)) s).link)
        ∧ (s.protect.spacing ≠ none ∨ (∃ l, s.protect.lastStart = some l ∧ max s.now d < l + 50) →
            t.group g = waited.group g ∧ g ∈ t.protect.startQueue ∧ t.protect.spacing ≠ none ∧ t.link = s.link)))
  ∧ (∀ (s : State) (g : Fin 6), (s.group g).window = none → exec (.faultWindowExpiry g) s = .next s)
  ∧ ∀ (s : State) (g : Fin 6) (d : Nat), s.nothingDue → (s.group g).window = some d →
    exec (.faultWindowExpiry g) s = .next ({ s with now := max s.now d }.onGroup g fun x =>
      { x with faultCount := 0, windowStart := none, window := none })

/-- A poll tick reads back every enable line: a group that is not LATCHED and whose line stands at another level than the driven
one latches with cause LINE, muted and out of the start queue. It moves the tick on by 100 ms and posts the read of the next
sensored group in cyclic order; with no sensor, or with the last poll still out, it posts none. In BUS_DOWN the poll fails at
once (R77, R95, R104, R107, R172). Every group that changes has the one PROTECT notice of R110 (R198), stated outside the turn
of a slot of the group. The clock, the frame at which a mute acts and the window start that stays in the record of a group that
latches, and the order of several notices, are the model's (log entries 6, 10, 15 and 12). -/
def Obligations.PollTickReadsTheNextSensor : Prop :=
  (∀ (s : State) (levels : BitVec 6), s.protect.tick = none → exec (.pollTick levels) s = .next s)
  ∧ (∀ (s : State) (levels : BitVec 6) (d : Nat), s.nothingDue → s.protect.tick = some d → s.bus.state ≠ .busDown →
    let stray (g : Fin 6) : Prop := (s.group g).state ≠ .latched ∧ levels.getLsbD g.1 ≠ (s.group g).driven
    s.link.opState ≠ .waking → (∃ g, stray g) →
    ∃ t, exec (.pollTick levels) s = .next t
      ∧ t = { s with
          protect := t.protect, gain := t.gain, measure := t.measure, link := t.link, bus := t.bus, now := max s.now d
          free := t.free }
      ∧ t.protect.tick = some (d + 100) ∧ t.link.opState = s.link.opState ∧ t.link.requests = s.link.requests
      ∧ (∀ g, ¬stray g → t.group g = s.group g)
      ∧ (∀ g, stray g →
        t.group g = { s.group g with
          state := .latched, cause := .line, driven := false, settle := none, retry := none, window := none
          readback := if (s.group g).driven then (s.group g).readback ++ [t.now + 1] else (s.group g).readback
          reported := (s.group g).attenuation }
        ∧ g ∉ t.protect.startQueue
        ∧ ∀ i : Fin 12, i.1 / 2 = g.1 → (t.channel i).current = -1000 ∧ (t.channel i).coef = 0)
      ∧ ((∀ g, stray g → s.probesNoneOf g) → t.link = (s.tellsGroups t s).link)
      ∧ (s.bus.protectSlot ≠ none ∨ (∀ g, (s.group g).sensor = none) → t.bus = s.bus ∧ t.protect.polling = s.protect.polling)
      ∧ (s.bus.protectSlot = none → (∃ g, (s.group g).sensor ≠ none) →
        ∃ g a, (s.group g).sensor = some a ∧ t.protect.polling = some g ∧ t.protect.lastPolled = some g
          ∧ t.bus.protectSlot = some ⟨a, [], 2, false⟩))
  ∧ ∀ (s : State) (levels : BitVec 6) (d : Nat), s.nothingDue → s.protect.tick = some d →
    (∀ g : Fin 6, (s.group g).state = .latched ∨ levels.getLsbD g.1 = (s.group g).driven) →
    let ticked := { s with now := max s.now d }.onProtect fun p => { p with tick := some (d + 100) }
    (s.bus.protectSlot ≠ none ∨ (∀ g, (s.group g).sensor = none) → exec (.pollTick levels) s = .next ticked)
    ∧ ∀ (g : Fin 6) (a : BitVec 7), s.bus.protectSlot = none → (s.group g).sensor = some a →
      let from0 (h : Fin 6) : Nat :=
        match s.protect.lastPolled with
        | some l => (h.1 + 5 - l.1) % 6
        | none => h.1
      (∀ h, h ≠ g → (s.group h).sensor ≠ none → from0 g < from0 h) →
      let post : Transaction := ⟨a, [], 2, false⟩
      (s.bus.state ≠ .busDown →
        ∃ t, exec (.pollTick levels) s = .next t
          ∧ t = { s with
              now := max s.now d, bus := t.bus
              protect := { s.protect with tick := some (d + 100), lastPolled := some g, polling := some g } }
          ∧ t.bus.protectSlot = some post ∧ t.bus.tunerSlot = s.bus.tunerSlot ∧ t.bus.relaySlot = s.bus.relaySlot
          ∧ (s.bus.state = .idle → s.bus.tunerSlot = none → s.bus.relaySlot = none →
              t.bus = { s.bus with
                state := .active, protectSlot := some post, inProgress := some .protect, last := .protect
                lineFast := s.bus.fast, hold := none, moves := [.start], movesBefore := s.bus.moves }))
      ∧ (s.bus.state = .busDown →
        ∃ t, exec (.pollTick levels) s = .next t ∧ t = { s with now := max s.now d, protect := t.protect, link := t.link }
          ∧ t.protect.polling = none ∧ t.protect.lastPolled = some g ∧ t.protect.tick = some (d + 100)
          ∧ (∀ h, h ≠ g → t.group h = s.group h)
          ∧ t.group g = { s.group g with
              failRun := min ((s.group g).failRun + 1) 65535, pollFailures := min ((s.group g).pollFailures + 1) 65535
              sensorLost := (s.group g).sensorLost || decide ((s.group g).failRun = 2)
              attenuation := if (s.group g).failRun = 2 then s.protect.settings.floor else (s.group g).attenuation
              reported := (t.group g).reported }
          ∧ t.link = (s.tellsGroup g (s.group g) (t.group g)).link
          ∧ (t.group g).reported = toldAttenuation (s.group g) (t.group g))

/-- The end of a poll's transaction: the temperature steps the attenuation of the group against the settings; at T or above it
trips the group by its state, and a group that waits after a trip retries at a cool reading once its timer has expired. A NACK
counts a failed poll, the third in a row losing the sensor (R104 to R107, R165, R166). The group has one PROTECT notice with the
first reason of STATE, SENSOR and ATTENUATION, the last at 1.0 dB or more from the reported attenuation, which then is the one
sent (R110, R198), stated outside the turn of a slot of the group. The clock and the operands of the event, the frame at which a
mute acts and the spacing of a start are the model's (log entries 6, 10, 15 and 18). -/
def Obligations.PollOutcomesActOnTheGroup : Prop :=
  ∀ (s : State) (g : Fin 6) (x : Transaction), s.nothingDue → s.bus.state = .active → s.bus.inProgress = some .protect →
    s.bus.protectSlot = some x → x.hold = false → s.protect.polling = some g → s.link.opState ≠ .waking →
    let p := s.protect.settings
    let c := s.group g
    (∀ hi lo : Byte, x.readCount = 2 →
      let theta : Int := (hi ++ lo : Word16).toInt / 256
      let stepped : Int :=
        if (p.warn : Int) ≤ theta then max p.floor (c.attenuation - 10)
        else if theta < (p.warn : Int) - p.margin then min 0 (c.attenuation + 5)
        else c.attenuation
      let read : Group := { c with lastTemp := some theta, failRun := 0, sensorLost := false, attenuation := stepped }
      let cool : Prop := theta < (p.warn : Int) - p.margin
      let waiting : Prop := c.state = .faultWait ∧ c.cause = .thermal
      ∃ t, exec (.transactionEnd (.done [hi, lo])) s = .next t ∧ t.bus.protectSlot = none ∧ t.protect.polling = none
        ∧ t = { s with
            protect := t.protect, gain := t.gain, measure := t.measure, link := t.link, bus := t.bus, free := t.free }
        ∧ (∀ h, h ≠ g → t.group h = s.group h)
        ∧ (s.probesNoneOf g → t.link = (s.tellsGroup g c (t.group g)).link)
        ∧ (t.group g).reported = toldAttenuation c (t.group g)
        ∧ (t.group g).lastTemp = some theta ∧ (t.group g).failRun = 0 ∧ (t.group g).sensorLost = false
        ∧ (t.group g).attenuation = stepped ∧ (t.group g).faultCount = c.faultCount ∧ (t.group g).sensor = c.sensor
        ∧ (theta < p.trip → ¬waiting →
            t.group g = { read with reported := (t.group g).reported } ∧ t.gain = s.gain ∧ t.measure = s.measure)
        ∧ ((p.trip : Int) ≤ theta → c.state = .powering ∨ c.state = .on →
            (t.group g).state = .faultWait ∧ (t.group g).cause = .thermal ∧ (t.group g).driven = false
            ∧ (t.group g).thermalTrips = min (c.thermalTrips + 1) 65535 ∧ (t.group g).retry = some (s.now + 2000)
            ∧ (t.group g).settle = none ∧ (t.group g).coolSeen = false
            ∧ ∀ i : Fin 12, i.1 / 2 = g.1 → (t.channel i).current = -1000 ∧ (t.channel i).coef = 0)
        ∧ ((p.trip : Int) ≤ theta → c.state = .off ∨ c.state = .latched →
            t.group g = { read with
              coolSeen := false, thermalTrips := min (c.thermalTrips + 1) 65535, reported := (t.group g).reported })
        ∧ ((p.trip : Int) ≤ theta → c.state = .faultWait →
            t.group g = { read with
              cause := .thermal, coolSeen := false, thermalTrips := min (c.thermalTrips + 1) 65535
              retry := if g ∈ s.protect.startQueue then some (s.now + 2000) else c.retry, reported := (t.group g).reported }
            ∧ g ∉ t.protect.startQueue ∧ t.gain = s.gain ∧ t.measure = s.measure)
        ∧ (theta < p.trip → waiting →
            (¬cool ∨ c.retry ≠ none ∨ s.link.opState = .quieting ∨ s.link.opState = .standby →
              t.group g = { read with coolSeen := decide cool, reported := (t.group g).reported }
              ∧ t.protect.startQueue = s.protect.startQueue)
            ∧ (cool → c.retry = none → s.link.opState = .running →
              (s.protect.spacing = none → (∀ l, s.protect.lastStart = some l → l + 50 ≤ s.now) →
                (t.group g).state = .powering ∧ (t.group g).cause = .none ∧ (t.group g).driven = true
                ∧ (t.group g).settle = some (s.now + 200) ∧ t.protect.lastStart = some s.now)
              ∧ (s.protect.spacing ≠ none ∨ (∃ l, s.protect.lastStart = some l ∧ s.now < l + 50) →
                t.group g = { read with coolSeen := true, reported := (t.group g).reported }
                ∧ g ∈ t.protect.startQueue ∧ t.protect.spacing ≠ none))))
    ∧ ∀ reading : Bool, (if reading then x.readCount ≠ 0 else x.write ≠ [] ∨ x.readCount = 0) →
      ∃ t, exec (.transactionEnd (.nackAddr reading)) s = .next t ∧ t.bus.protectSlot = none ∧ t.protect.polling = none
        ∧ t.bus.nacks = min (s.bus.nacks + 1) 65535
        ∧ t = { s with protect := t.protect, link := t.link, bus := t.bus } ∧ (∀ h, h ≠ g → t.group h = s.group h)
        ∧ t.group g = { c with
            failRun := min (c.failRun + 1) 65535, pollFailures := min (c.pollFailures + 1) 65535
            sensorLost := c.sensorLost || decide (c.failRun = 2)
            attenuation := if c.failRun = 2 then p.floor else c.attenuation
            reported := (t.group g).reported }
        ∧ t.link = (s.tellsGroup g c (t.group g)).link ∧ (t.group g).reported = toldAttenuation c (t.group g)

/-! ## Room measurement (chapter 6) -/

/-- MEASURE is refused in the order of its checks, or starts a run: the record, PENDING results of its slots, and MAIN taken, at
once from SILENT and WAITING and by a fade from PLAYING, with the notices of PREPARING, of PROBING and of MAIN (R34, R41, R115
to R118, R132, R194, R196, R198). What a refused reply shows of a run, whose clamp flag it always sends clear, that DEGRADED is
cleared at once from WAITING, and that a mask bit above slot 12 is judged after NOT_READY and BUSY and the order of the notices
are the model's (log entries 8, 14, 20 and 12). -/
def Obligations.MeasureStartsARun : Prop :=
  ∀ (s : State) (tag : Byte) (slots : Word16) (reps : Byte) (burst : Word16) (reference apply : Byte), s.servesLong tag →
    let run := exec (.measure tag slots reps burst reference apply) s
    let mask := allSlots.filter fun i => slots.getLsbD i.1 && decide (i ∈ s.render.present)
    let level : Int := max (-400) (min (-100) burst.toInt)
    let ready : Prop := s.link.opState = .running ∧ (s.port 9).lock = .locked
    let valid : Prop := 1 ≤ reps.toNat ∧ reps.toNat ≤ 4 ∧ 1 ≤ reference.toNat ∧ reference.toNat ≤ 12 ∧ apply.toNat ≤ 2
      ∧ slots.toNat < 4096 ∧ mask ≠ []
    let stood : List Byte := match s.measure.run with
      | some r => u16 (maskOf r.mask) ++ s16 r.burst ++ [0]
      | none => [0, 0, 0, 0, 0]
    (¬ready → run = .next (s.replied 0x40 tag .notReady stood))
    ∧ (ready → s.measure.run ≠ none → run = .next (s.replied 0x40 tag .busy stood))
    ∧ (ready → s.measure.run = none → ¬valid → run = .next (s.replied 0x40 tag .badValue stood))
    ∧ ∀ (ref : Fin 12) (mode : ApplyMode), ready → s.measure.run = none → valid → reference = number ref →
      apply = applyCode mode →
      let started : Run :=
        ⟨.preparing, mask, mask, none, reps.toNat, level, ref, mode, tag, s.measure.latency, s.measure.correction, .done⟩
      ∃ t, run = .next t
        ∧ t = { s with link := t.link, measure := t.measure, main := t.main, render := t.render, gain := t.gain }
        ∧ t.link.outbound.take (s.link.outbound.length + 1)
          = s.link.outbound ++ [⟨.reply, 0xC0, tag,
              0x01 :: u16 (maskOf mask) ++ s16 level ++ [if level = burst.toInt then 0 else 1]⟩]
        ∧ (let told (st : Byte) (u : State) : State := emit .measure ([0, st] ++ u16 (maskOf mask) ++ s16 level) u
          let preparing := told 1 (s.replied 0x40 tag .started
            (u16 (maskOf mask) ++ s16 level ++ [if level = burst.toInt then 0 else 1]))
          t.link = (s.tellsRoutes t (if s.main.state = .silent ∨ s.main.state = .waiting then told 2 preparing else preparing)).link)
        ∧ t.measure.latency = s.measure.latency ∧ t.measure.correction = s.measure.correction
        ∧ (∀ i, t.measure.results.get i = if i ∈ mask then ⟨.pending, none, false⟩ else s.measure.results.get i)
        ∧ (s.main.state = .playing →
            t.main = { s.main with state := .fadingOut, purpose := some .measure, pending := none, reason := none }
            ∧ t.measure.run = some started ∧ t.gain = s.gain ∧ t.render = s.render)
        ∧ (s.main.state = .fadingOut → t.main = { s.main with purpose := some .measure } ∧ t.measure.run = some started)
        ∧ (s.main.state = .silent ∨ s.main.state = .waiting →
            t.main = { s.main with
              state := .measure, purpose := none, reason := none, degraded := false
              conv := { s.main.conv with state := .idle, input := none, fifo := [], given := [] } }
            ∧ t.measure.run = some { started with state := .probing }
            ∧ ∀ (k : Fin 8) (i : Fin 12), (t.render.lanes.get k).get i = 0)

/-- The course of a slot up to its burst: a turn starts the ambient phase of a slot whose group is ON, the end of the ambient
phase sets the threshold and posts the burst gain, and the burst's end withdraws it; the slot of a group that is not ON is
FAULTED, with its notice (R75, R119 to R121, R132, R198). The events and the frames they count are the model's operands (log
entries 6 and 16). -/
def Obligations.SlotTurnAndBurst : Prop :=
  (∀ (s : State) (run : Run) (i : Fin 12) (rest : List (Fin 12)), s.nothingDue → s.measure.run = some run →
    run.state = .probing → run.probe = none → run.todo = i :: rest →
    ((s.group (groupOf i)).state = .on →
      exec .slotTurn s = .next (s.onMeasure fun m => { m with run := some { run with
        todo := rest
        probe := some ⟨i, 1, false, .ambient, 0, 0, -1000, 0, none, 0, false, false, []⟩ } }))
    ∧ (∀ (j : Fin 12) (more : List (Fin 12)), (s.group (groupOf i)).state ≠ .on → rest = j :: more →
      (s.group (groupOf j)).state = .on →
      ∃ t, exec .slotTurn s = .next t
        ∧ t = emit .measure ([1, number i] ++ resultBytes ⟨.faulted, none, false⟩ ++ s16 run.burst) { s with measure := t.measure }
        ∧ t.measure.run = some { run with
            todo := more, outcome := if run.outcome = .aborted then .aborted else .degraded
            probe := some ⟨j, 1, false, .ambient, 0, 0, -1000, 0, none, 0, false, false, []⟩ }
        ∧ ∀ k, t.measure.results.get k = if k = i then ⟨.faulted, none, false⟩ else s.measure.results.get k))
  ∧ (∀ (s : State), s.nothingDue → (∀ run, s.measure.run = some run → run.state ≠ .probing ∨ run.probe ≠ none) →
    exec .slotTurn s = .next s)
  ∧ (∀ (s : State) (run : Run) (p : Probe), s.nothingDue → s.measure.run = some run → run.probe = some p →
    (p.phase = .ambient →
      let level : Int := max (-1000) (min 180 (run.burst + (s.group (groupOf p.slot)).attenuation))
      let ambient : Int :=
        if p.peak = 0 then -1000 else max (-1000) (min 100 ((logTenths p.peak : Int) - 1380 + run.correction))
      ∃ t, exec .ambientPhaseEnd s = .next t ∧ t = { s with measure := t.measure, gain := t.gain }
        ∧ t.measure = { s.measure with run := some { run with probe := some { p with
            phase := .listen, frame := 0, threshold := max (4 * p.peak) 4096, ambient := ambient } } }
        ∧ t.gain = { s.gain with burst := some ⟨p.slot, run.burst, 0xACE1, 960⟩, channels := t.gain.channels }
        ∧ (∀ i, i ≠ p.slot → t.channel i = s.channel i)
        ∧ t.channel p.slot = { s.channel p.slot with
            target := level, current := level
            coef := if (s.group (groupOf p.slot)).state = .on
                ∧ (p.slot ∈ s.render.present ∨ (s.gain.zoneAssigned = true ∧ (p.slot = 6 ∨ p.slot = 7))) then gainLaw level
              else 0 })
    ∧ (p.phase = .listen → exec .ambientPhaseEnd s = .next s)
    ∧ (p.phase = .listen → s.gain.burst = none → exec .burstEnd s = .next s)
    ∧ (∀ b : Burst, p.phase = .listen → s.gain.burst = some b →
      exec .burstEnd s = .next ((s.onGain fun g => { g with burst := none }).onChannel b.slot fun c =>
        { c with target := -1000, current := -1000, coef := 0 }))
    ∧ (p.phase = .ambient → exec .burstEnd s = .next s))
  ∧ ∀ (s : State), s.nothingDue → s.measure.run.bind (·.probe) = none →
    exec .ambientPhaseEnd s = .next s ∧ exec .burstEnd s = .next s ∧ exec .listenPhaseEnd s = .next s

/-- The end of a listen phase: a clipped repetition lowers the burst by 6 dB and is made again once, a finished one is followed
by the next repetition, and the last one gives the slot its result, ABSENT, CLIPPED, NOISY or OK, and the next slot its turn.
With no slot left the run ends: the trims against the reference level are formed and applied by the apply mode, and MAIN is
given back, with the delay lines silent where it leaves MEASURE. What cuts a slot or a run short: the slot of a group that
leaves ON is FAULTED, and the loss of the MIC port's lock aborts the run. Each slot that finishes has its SLOT_RESULT notice,
and the entry to RESTORING its RUN_STATE notice after it (R35, R41, R81, R110, R122 to R130, R132, R198). The event is the
model's (log entry 6), and so is the frame at which a mute acts (log entry 10), and the places of the ROUTE and PROTECT notices
among them (log entry 12). -/
def Obligations.ListenPhaseEndsTheRepetition : Prop :=
  (∀ (s : State) (run : Run) (p : Probe), s.nothingDue → s.gain.burst = none → s.measure.run = some run → run.probe = some p →
    p.phase = .listen →
    let fresh (i : Fin 12) (k : Nat) (used : Bool) (done : List Repetition) : Probe :=
      ⟨i, k, used, .ambient, 0, 0, -1000, 0, none, 0, false, false, done⟩
    let burst : Int := if p.clipped then max (-400) (run.burst - 60) else run.burst
    let finished : Repetition :=
      ⟨p.arrival.map fun t => (t - run.latency,
          (if p.sumSquares < 960 then -1000
            else max (-1000) (min 100 (((Nat.log2 (p.sumSquares ^ 60 / 960 ^ 60) + 1) / 2 : Nat) - 1380 + run.correction))),
          p.negative),
        p.ambient, p.clipped⟩
    let becomes (r : Run) : State := s.onMeasure fun m => { m with run := some r }
    (p.clipped = true → p.repeatUsed = false →
      exec .listenPhaseEnd s
        = .next (becomes { run with burst := burst, probe := some (fresh p.slot p.repetition true p.finished) }))
    ∧ (p.clipped = false ∨ p.repeatUsed = true → p.repetition < run.repetitions →
      exec .listenPhaseEnd s
        = .next (becomes { run with
            burst := burst, probe := some (fresh p.slot (p.repetition + 1) false (p.finished ++ [finished])) }))
    ∧ (∀ (j : Fin 12) (more : List (Fin 12)), p.clipped = false ∨ p.repeatUsed = true → run.repetitions ≤ p.repetition →
      run.state = .probing → run.todo = j :: more → (s.group (groupOf j)).state = .on →
      let reps := p.finished ++ [finished]
      let heard := reps.filterMap (·.arrival)
      ∃ t, exec .listenPhaseEnd s = .next t
        ∧ t = emit .measure ([1, number p.slot] ++ resultBytes (t.measure.results.get p.slot) ++ s16 burst) { s with measure := t.measure }
        ∧ (∀ i, i ≠ p.slot → t.measure.results.get i = s.measure.results.get i)
        ∧ t.measure.run = some { run with
            burst := burst, todo := more, probe := some (fresh j 1 false [])
            outcome := if (t.measure.results.get p.slot).status = .ok then run.outcome
              else if run.outcome = .aborted then .aborted else .degraded }
        ∧ (heard = [] → t.measure.results.get p.slot = ⟨.absent, none, false⟩)
        ∧ ∀ (first : Nat × Int × Bool) (others : List (Nat × Int × Bool)), heard = first :: others →
          let delta := (roundDiv (heard.map fun a => (a.1 : Int)).sum heard.length).toNat
          let level := roundDiv (heard.map (·.2.1)).sum heard.length
          (t.measure.results.get p.slot).measured
              = some ((min 1800 (roundDiv (delta * 34300) 48000).toNat), level, first.2.2)
          ∧ ((t.measure.results.get p.slot).status = .clipped ↔ ∃ r ∈ reps, r.clipped = true ∧ r.arrival ≠ none)
          ∧ (let steady : Prop := (∀ r ∈ reps, r.arrival ≠ none ∧ r.ambient < level - 100)
                ∧ (∀ a ∈ heard, ∀ b ∈ heard, a.1 ≤ b.1 + 48) ∧ ∀ a ∈ heard, a.2.2 = first.2.2
              let clean : Prop := ∀ r ∈ reps, r.arrival ≠ none → r.clipped = false
              ((t.measure.results.get p.slot).status = .ok ↔ clean ∧ steady)
              ∧ ((t.measure.results.get p.slot).status = .noisy ↔ clean ∧ ¬steady)))
    ∧ (p.clipped = false ∨ p.repeatUsed = true → run.repetitions ≤ p.repetition → run.state = .probing → run.todo = [] →
      run.mask.Pairwise (· < ·) → s.main.relayoutDue = false → s.tuner.state ≠ .hushing →
      ∃ t, exec .listenPhaseEnd s = .next t
        ∧ t = { s with
            link := t.link, measure := t.measure, main := t.main, render := t.render, gain := t.gain, free := t.free }
        ∧ t.measure.run = some { run with
            state := .restoring, burst := burst, probe := none, todo := []
            outcome := if (t.measure.results.get p.slot).status = .ok then run.outcome
              else if run.outcome = .aborted then .aborted else .degraded }
        ∧ (let found := emit .measure ([1, number p.slot] ++ resultBytes { t.measure.results.get p.slot with trimLimit := false }
            ++ s16 burst) s
          t.link = (emit .measure ([0, 3] ++ u16 (maskOf run.mask) ++ s16 burst) (s.tellsRoutes t found)).link)
        ∧ (s.main.state = .measure → s.linesSilent t)
        ∧ (s.main.state = .measure → s.link.opState = .running →
            let sel := s.main.pending.getD s.main.selected
            t.main.selected = sel ∧ t.main.pending = none ∧ (sel = none → t.main.state = .silent)
            ∧ ∀ i, sel = some i → t.main.state = if judge s i = none then .playing else .waiting)
        ∧ (∀ i, i ≠ p.slot → (t.measure.results.get i).status = (s.measure.results.get i).status
            ∧ (t.measure.results.get i).measured = (s.measure.results.get i).measured)
        ∧ ((p.finished ++ [finished]).filterMap (·.arrival) = [] → (t.measure.results.get p.slot).status = .absent)
        ∧ (let result (i : Fin 12) : Result := t.measure.results.get i
          let level (i : Fin 12) : Option Int := (result i).measured.map (·.2.1)
          let usable (i : Fin 12) : Prop := i ∈ run.mask ∧ ((result i).status = .ok ∨ (result i).status = .noisy)
            ∧ (result i).measured ≠ none
          ∀ against : Option Int,
            (if usable run.reference then against = level run.reference
              else (∃ j ∈ run.mask, (result j).status = .ok ∧ (∀ k ∈ run.mask, (result k).status = .ok → j ≤ k)
                  ∧ against = level j)
                ∨ ((∀ j ∈ run.mask, (result j).status ≠ .ok) ∧ against = none)) →
            ∀ i,
              (¬usable i → (t.channel i).pending = (s.channel i).pending ∧ (t.channel i).marked = (s.channel i).marked
                ∧ (result i).trimLimit = if i = p.slot then false else (s.measure.results.get i).trimLimit)
              ∧ ∀ (d : Nat) (own : Int) (inverted : Bool), usable i → (result i).measured = some (d, own, inverted) →
                (∀ v, against = some v → ((result i).trimLimit = true ↔ v - own < -120 ∨ 120 < v - own))
                ∧ (against = none →
                  (result i).trimLimit = if i = p.slot then false else (s.measure.results.get i).trimLimit)
                ∧ (run.apply = .none →
                  (t.channel i).pending = (s.channel i).pending ∧ (t.channel i).marked = (s.channel i).marked)
                ∧ (run.apply ≠ .none →
                  (t.channel i).pending = ⟨d, match against with
                      | some v => max (-120) (min 120 (v - own))
                      | none => (s.channel i).pending.trim, inverted⟩
                  ∧ (t.channel i).marked = ((s.channel i).marked || decide (run.apply = .stageAndLoad))))))
  ∧ (∀ (s : State) (run : Run) (p : Probe) (g : Fin 6), s.nothingDue → s.link.opState ≠ .waking → s.measure.run = some run →
    run.probe = some p → groupOf p.slot = g → (s.group g).state = .on → (s.group g).debounceEnd ≤ s.now →
    ∃ t, exec (.faultEdge g) s = .next t ∧ t.gain.burst = none
      ∧ t.link = (emit .protect (groupNoticeBytes 0 g (t.group g))
        (emit .measure ([1, number p.slot] ++ resultBytes ⟨.faulted, none, false⟩ ++ s16 run.burst) s)).link
      ∧ t.measure = { s.measure with
          run := some { run with
            probe := none, outcome := if run.outcome = .aborted then .aborted else .degraded }
          results := t.measure.results }
      ∧ (∀ i, t.measure.results.get i = if i = p.slot then ⟨.faulted, none, false⟩ else s.measure.results.get i)
      ∧ (t.channel p.slot).current = -1000 ∧ (t.channel p.slot).coef = 0
      ∧ ∀ b, s.gain.burst = some b → (t.channel b.slot).target = -1000 ∧ (t.channel b.slot).current = -1000)
  ∧ ∀ (s : State) (tag : Byte) (run : Run), s.serves tag → s.measure.run = some run → run.state ≠ .restoring →
    (s.port 9).enabled = true → (s.port 9).lock = .locked →
    ∃ t, exec (.portSet tag 10 0) s = .next t ∧ (t.port 9).lock = .off ∧ t.gain.burst = none
      ∧ (s.tuner.state ≠ .hushing → s.main.relayoutDue = false →
        (∀ r, (s.route r).conv.input.map (·.port) ≠ some 9 ∧ ∀ i, (s.route r).selected = some i → (s.source i).port ≠ 9) →
        t.link = (emit .measure ([0, 3] ++ u16 (maskOf run.mask) ++ s16 run.burst) (s.tellsRoutes t
          (emit .port (portNoticeBytes 0 9 (t.port 9)) (s.replied 0x10 tag .ok [10, 0])))).link)
      ∧ t.measure = { s.measure with
          run := some { run with state := .restoring, outcome := .aborted, probe := none, todo := [] }
          results := t.measure.results }
      ∧ ∀ i, t.measure.results.get i
        = if i ∈ run.todo ∨ run.probe.map (·.slot) = some i then ⟨.skipped, none, false⟩ else s.measure.results.get i

/-- A run in RESTORING completes with its tag, outcome, mask and the status of each slot; MEASURE_STOP aborts a run in PREPARING
or PROBING, whose unprobed slots are SKIPPED and whose MAIN is given back, with the delay lines silent where it leaves MEASURE,
and changes nothing otherwise (R35, R41, R81, R129 to R132, R198). A completion that cannot happen changes nothing (log entry
6), and the order of the notices and the completion is the model's (log entry 12). -/
def Obligations.RunEndsAndIsStopped : Prop :=
  (∀ (s : State) (run : Run), s.nothingDue → s.measure.run = some run → run.state = .restoring →
    exec .measureComplete s = .next
      ((emit .measure ([0, 0] ++ u16 (maskOf run.mask) ++ s16 run.burst)
          (s.onMeasure fun m => { m with run := none })).enqueue
        ⟨.completion, 0xE0, run.tag,
          ([0x40, match run.outcome with
            | .done => 0x00
            | .degraded => 0x03
            | .aborted => 0x10] : List Byte)
            ++ u16 (maskOf run.mask)
            ++ allSlots.map fun i => if i ∈ run.mask then resultCode (s.measure.results.get i).status else 0xFF⟩))
  ∧ (∀ (s : State), s.nothingDue → (∀ run, s.measure.run = some run → run.state ≠ .restoring) →
    exec .measureComplete s = .next s)
  ∧ ∀ (s : State) (tag : Byte), s.serves tag →
    (s.measure.run = none → exec (.measureStop tag) s = .next (s.replied 0x41 tag .ok [0]))
    ∧ ∀ run : Run, s.measure.run = some run →
      (run.state = .restoring → exec (.measureStop tag) s = .next (s.replied 0x41 tag .ok [3]))
      ∧ (run.state ≠ .restoring → s.link.opState = .running → s.tuner.state ≠ .hushing → s.main.relayoutDue = false →
        ∃ t, exec (.measureStop tag) s = .next t
          ∧ t = { s with link := t.link, measure := t.measure, main := t.main, render := t.render, gain := t.gain, free := t.free }
          ∧ t.measure.run = some { run with state := .restoring, outcome := .aborted, probe := none, todo := [] }
          ∧ t.link.outbound.take (s.link.outbound.length + 1) = s.link.outbound ++ [⟨.reply, 0xC1, tag, [0x00, 3]⟩]
          ∧ t.link = (emit .measure ([0, 3] ++ u16 (maskOf run.mask) ++ s16 run.burst)
            (s.tellsRoutes t (s.replied 0x41 tag .ok [3]))).link
          ∧ (∀ i, t.measure.results.get i
              = if i ∈ run.todo ∨ run.probe.map (·.slot) = some i then ⟨.skipped, none, false⟩ else s.measure.results.get i)
          ∧ t.gain.burst = none
          ∧ (s.main.state = .fadingOut → s.main.purpose = some .measure →
              t.main = { s.main with purpose := some .switch, pending := some (s.main.pending.getD s.main.selected) })
          ∧ (s.main.state = .measure → s.linesSilent t)
          ∧ (s.main.state = .measure →
              let sel := s.main.pending.getD s.main.selected
              t.main.selected = sel ∧ t.main.pending = none ∧ t.main.purpose = none
              ∧ (sel = none → t.main.state = .silent)
              ∧ ∀ i, sel = some i → t.main.state = (if judge s i = none then .playing else .waiting)
                ∧ t.main.reason = judge s i))

/-- PROFILE_WRITE stores a profile as LAYOUT_SET would store its layout, writes the twelve pending halves and sets all load
marks, and refuses the whole for one value out of range; MEASURE_SET clamps and stores the two settings (R33, R69, R135, R137). -/
def Obligations.ProfileWriteAndMeasureSet : Prop :=
  ∀ (s : State) (tag : Byte), s.serves tag →
    (∀ (slots : List RawSlot) (lfe : Byte) (channels : List RawHalf) (raw : Fin 12 → RawSlot) (half : Fin 12 → RawHalf),
      slots = List.ofFn raw → channels = List.ofFn half →
      let shown (u : State) : List Byte :=
        layoutBytes u.render.requested ++ (u.gain.channels.items.map fun c => halfBytes c.pending).flatten
      let inRange : Prop := ∀ i, (half i).polarity.toNat ≤ 1 ∧ (half i).distance.toNat ≤ 1800 ∧ -120 ≤ (half i).trim.toInt
        ∧ (half i).trim.toInt ≤ 120
      let run := exec (.profileWrite tag slots lfe channels) s
      (s.measure.run ≠ none → run = .next (s.replied 0x44 tag .busy (shown s)))
      ∧ (s.measure.run = none → parseLayout raw lfe = none ∨ ¬inRange → run = .next (s.replied 0x44 tag .badValue (shown s)))
      ∧ ∀ (l : Layout) (replaced : Bool), s.measure.run = none → parseLayout raw lfe = some (l, replaced) → inRange →
        let u := (s.onRender fun r => { r with requested := l }).onGain fun g =>
          { g with channels := g.channels.mapIdx fun i c =>
            { c with
              pending := ⟨(half i).distance.toNat, (half i).trim.toInt, decide ((half i).polarity = 1)⟩, marked := true } }
        let status : Status := if replaced then .clamped else .ok
        let y : Route := { s.main with
          relayoutDue := true, state := .fadingOut, purpose := some .relayout, pending := none, reason := none }
        run = .next (if l = s.render.inForce ∧ l = s.render.requested then u.replied 0x44 tag status (shown u)
          else if s.main.state = .playing then
            emit .route (0 :: routeBytes .main y) ((u.onRoute .main fun _ => y).replied 0x44 tag status (shown u))
          else (u.onRoute .main fun x => { x with relayoutDue := true }).replied 0x44 tag status (shown u)))
    ∧ ∀ latency correction : Word16,
      let l := min latency.toNat 480
      let c : Int := max (-100) (min 100 correction.toInt)
      exec (.measureSet tag latency correction) s
        = .next ((s.onMeasure fun m => { m with latency := l, correction := c }).replied 0x45 tag
          (if l = latency.toNat ∧ c = correction.toInt then .ok else .clamped) (u16 l ++ s16 c))

/-! ## Radio tuning (chapter 7) -/

/-- The rasters of R138: the channel nearest to a frequency, the higher one on a tie, and the next channel of a seek with its
wrap at the ends; TUNER_SET stores its settings, empties what a changed step leaves off the raster and moves the record's
frequency to it; AGC_SET stores the loop's settings (R138, R147, R152, R162, R196). That AGC_SET judges NOT_READY before its
mode is the model's choice (log entry 20). -/
def Obligations.RastersAndTunerSettings : Prop :=
  (∀ (b : Band) (step f : Nat), (b = .fm ∧ (step = 50 ∨ step = 100 ∨ step = 200)) ∨ (b = .am ∧ (step = 9 ∨ step = 10)) →
    let low := if step = 200 then 87900 else if b = .fm then 87500 else if step = 9 then 522 else 530
    let high := if step = 200 then 107900 else if b = .fm then 108000 else 1710
    let channel (c : Nat) : Prop := low ≤ c ∧ c ≤ high ∧ step ∣ c - low
    rasterLow b step = low ∧ rasterHigh b step = high ∧ (isChannel b step f = true ↔ channel f)
    ∧ channel (nearestChannel b step f)
    ∧ (∀ c, channel c → ((f : Int) - nearestChannel b step f).natAbs < ((f : Int) - c).natAbs
        ∨ (((f : Int) - nearestChannel b step f).natAbs = ((f : Int) - c).natAbs ∧ c ≤ nearestChannel b step f))
    ∧ (channel f → nextChannel b step true f = (if f = high then low else f + step)
        ∧ nextChannel b step false f = (if f = low then high else f - step)))
  ∧ (∀ (s : State) (tag fm am fl fq al aq address : Byte), s.serves tag →
    let run := exec (.tunerSet tag fm am fl fq al aq address) s
    let valid : Prop := (fm = 50 ∨ fm = 100 ∨ fm = 200) ∧ (am = 9 ∨ am = 10) ∧ address.toNat ≤ 127
      ∧ ∀ g, (s.group g).sensor ≠ some (address.setWidth 7)
    let x : TunerSettings :=
      ⟨fm.toNat, am.toNat, min fl.toNat 127, min fq.toNat 15, min al.toNat 127, min aq.toNat 15, address.setWidth 7⟩
    let busy : Prop := (s.tuner.state = .hushing ∨ s.tuner.state = .tuning ∨ s.tuner.state = .seeking ∨ s.tuner.state = .scanning)
      ∧ (x.step s.tuner.band ≠ s.tuner.settings.step s.tuner.band ∨ x.address ≠ s.tuner.settings.address)
    let status : Status :=
      if x.fmLevel = fl.toNat ∧ x.fmQuality = fq.toNat ∧ x.amLevel = al.toNat ∧ x.amQuality = aq.toNat then .ok else .clamped
    let changed (b : Band) : Prop := x.step b ≠ s.tuner.settings.step b
    let moved := if changed s.tuner.band then nearestChannel s.tuner.band (x.step s.tuner.band) s.tuner.frequency
      else s.tuner.frequency
    tunerSetBytes s = [BitVec.ofNat 8 s.tuner.settings.fmStep, BitVec.ofNat 8 s.tuner.settings.amStep,
        BitVec.ofNat 8 s.tuner.settings.fmLevel, BitVec.ofNat 8 s.tuner.settings.fmQuality,
        BitVec.ofNat 8 s.tuner.settings.amLevel, BitVec.ofNat 8 s.tuner.settings.amQuality,
        s.tuner.settings.address.setWidth 8, bandCode s.tuner.band] ++ u32 s.tuner.frequency
    ∧ (¬valid → run = .next (s.replied 0x48 tag .badValue (tunerSetBytes s)))
    ∧ (valid → busy → run = .next (s.replied 0x48 tag .busy (tunerSetBytes s)))
    ∧ (valid → ¬busy →
      ∃ t, run = .next t ∧ t.tuner.settings = x ∧ t.tuner.band = s.tuner.band ∧ t.tuner.frequency = moved
        ∧ t.tuner.mono = s.tuner.mono ∧ t.tuner.agcA = s.tuner.agcA
        ∧ (∀ b, t.tuner.list b = if changed b then [] else s.tuner.list b)
        ∧ (∀ k, t.tuner.presets.get k = match s.tuner.presets.get k with
            | some p => if changed p.band ∧ isChannel p.band (x.step p.band) p.frequency = false then none else some p
            | none => none)
        ∧ t.link.outbound.take (s.link.outbound.length + 1)
          = s.link.outbound ++ [⟨.reply, 0xC8, tag, statusCode status ::
              ([fm, am, BitVec.ofNat 8 x.fmLevel, BitVec.ofNat 8 x.fmQuality, BitVec.ofNat 8 x.amLevel,
                BitVec.ofNat 8 x.amQuality, address, bandCode s.tuner.band] ++ u32 moved)⟩]
        ∧ (s.tuner.state ≠ .listening ∨ moved = s.tuner.frequency →
            t = { s with tuner := t.tuner, link := t.link } ∧ t.tuner.state = s.tuner.state
            ∧ t.tuner.outstanding = s.tuner.outstanding)
        ∧ (s.tuner.state = .listening → moved ≠ s.tuner.frequency → s.bus.state ≠ .busDown →
            t.tuner.state = if hushHeld s = true then .hushing else .tuning)))
  ∧ ∀ (s : State) (tag mode target : Byte) (manual : Word16), s.serves tag →
    let target' := max 20 (min 90 target.toNat)
    let manual' := min manual.toNat 1023
    let shown := [agcCode s.tuner.agcMode, BitVec.ofNat 8 s.tuner.agcTarget] ++ u16 s.tuner.agcA
    (s.tuner.state = .off → exec (.agcSet tag mode target manual) s = .next (s.replied 0x52 tag .notReady shown))
    ∧ (s.tuner.state ≠ .off → 3 ≤ mode.toNat →
      exec (.agcSet tag mode target manual) s = .next (s.replied 0x52 tag .badValue shown))
    ∧ ∀ m : AgcMode, s.tuner.state ≠ .off → mode = agcCode m →
      let a := if m = .manual then manual' else s.tuner.agcA
      exec (.agcSet tag mode target manual) s
        = .next ((s.onTuner fun t => { t with agcMode := m, agcTarget := target', agcA := a }).replied 0x52 tag
          (if target' = target.toNat ∧ manual' = manual.toNat then .ok else .clamped)
          ([mode, BitVec.ofNat 8 target'] ++ u16 a))

/-- TUNE, SEEK, SCAN and TUNER_STOP by the state of the tuner: refused, held through a hush while a route plays the radio, or
begun at once with the write of the first channel posted; a search that is replaced or stopped completes ABORTED (R141, R143,
R144, R147 to R150, R153 to R156); every change of a route and of the tuner state has its notice (R41, R151, R198). Stated
outside BUS_DOWN; the stop of a hush is stated in RUNNING, the one operating state in which the tuner is not OFF. The clock, the
contents of a refused reply and what a running search shows are the model's (log entries 6, 8 and 13), and so are the order of
the checks of SEEK (log entry 20) and of the notices and the completion (log entry 12). -/
def Obligations.TuneSeekScanAndStop : Prop :=
  ∀ (s : State) (tag : Byte), s.serves tag → s.bus.state ≠ .busDown →
    let x := s.tuner
    let radio : Prop := ∃ r, tunerBound s r = true ∧ ((s.route r).state = .playing ∨ (s.route r).state = .fadingOut)
    let searching : Prop := x.state = .seeking ∨ x.state = .scanning
      ∨ (x.state = .hushing ∧ (x.op = some .scan ∨ ∃ up, x.op = some (.seek up)))
    let scanning : Prop := x.state = .scanning ∨ (x.state = .hushing ∧ x.op = some .scan)
    let write (b : Band) (f : Nat) (mono : Bool) : Transaction :=
      ⟨x.settings.address, [0, if b = .am then 1 else if mono then 2 else 0, BitVec.ofNat 8 (f / 65536), BitVec.ofNat 8 (f / 256),
        BitVec.ofNat 8 f], 0, false⟩
    let posts (t : State) (st : TunerStep) (b : Band) (f : Nat) (mono : Bool) : Prop :=
      (x.outstanding = none → t.tuner.outstanding = some (st, false) ∧ t.bus.tunerSlot = some (write b f mono))
      ∧ ∀ old stale, x.outstanding = some (old, stale) →
          t.tuner.outstanding = some (old, true) ∧ t.tuner.deferred = some st ∧ t.bus = s.bus
    let tuning (t : State) (b : Band) (f : Nat) (mono : Bool) : Prop :=
      t.tuner.state = .tuning ∧ t.tuner.band = b ∧ t.tuner.frequency = f ∧ t.tuner.mono = mono ∧ t.tuner.failRun = 0
        ∧ t.tuner.op = none ∧ t.tuner.seek = none ∧ t.tuner.scan = none ∧ t.tuner.settle = none ∧ posts t .tuneWrite b f mono
    let hushing (t : State) (o : TunerOp) : Prop :=
      t.tuner.state = .hushing ∧ t.tuner.op = some o ∧ t.tuner.hush = some (s.now + 250) ∧ t.tuner.poll = none
        ∧ t.tuner.frequency = x.frequency
        ∧ ∀ r, tunerBound s r = true → (s.route r).state = .playing →
          (t.route r).state = .fadingOut ∧ (t.route r).purpose = some .hold ∧ (t.route r).pending = none
    let apart (t : State) : Prop :=
      t.ports = s.ports ∧ t.sources = s.sources ∧ t.gain = s.gain ∧ t.protect = s.protect ∧ t.measure = s.measure
        ∧ t.render = s.render ∧ t.pins = s.pins ∧ t.now = s.now ∧ t.tuner.presets = x.presets ∧ t.tuner.fmList = x.fmList
        ∧ t.tuner.amList = x.amList
    let aborted (t : State) (kind : Byte) : Prop := t.tuner.opTag = none
      ∧ ∀ w, x.opTag = some w → ∃ part, ⟨.completion, 0xE0, w, kind :: 0x10 :: part⟩ ∈ t.link.outbound
    let ends (kind : Byte) (u : State) : State := match x.opTag with
      | some w => u.enqueue ⟨.completion, 0xE0, w, kind :: 0x10 :: if kind = 0x4A then
          [bandCode x.band] ++ u32 x.frequency ++ [BitVec.ofNat 8 x.level, BitVec.ofNat 8 x.quality, flagCode x.stereo]
        else [bandCode x.band, BitVec.ofNat 8 (x.list x.band).length] ++ match x.scan with
          | some c => [flagCode c.full, BitVec.ofNat 8 c.dropped]
          | none => [0, 0]⟩
      | none => u
    let tells (t u : State) : State := if t.tuner.state = x.state then u else emit .tuner (tunerNoticeBytes 0 t.tuner) u
    tuneBytes s = [bandCode x.band] ++ u32 x.frequency ++ [tunerStateCode x.state]
    ∧ (hushHeld s = true ↔ radio)
    ∧ (∀ (band mono : Byte) (freq : Word32),
      let run := exec (.tune tag band freq mono) s
      let step (b : Band) : Nat := x.settings.step b
      let inside (b : Band) : Prop := rasterLow b (step b) ≤ freq.toNat ∧ freq.toNat ≤ rasterHigh b (step b)
      (x.state = .off → run = .next (s.replied 0x49 tag .notReady (tuneBytes s)))
      ∧ (x.state ≠ .off → 2 ≤ band.toNat ∨ 2 ≤ mono.toNat → run = .next (s.replied 0x49 tag .badValue (tuneBytes s)))
      ∧ ∀ b : Band, x.state ≠ .off → band = bandCode b → mono.toNat < 2 →
        (¬inside b → run = .next (s.replied 0x49 tag .badValue (tuneBytes s)))
        ∧ (inside b → scanning → run = .next (s.replied 0x49 tag .busy (tuneBytes s)))
        ∧ (inside b → ¬scanning →
          let f := nearestChannel b (step b) freq.toNat
          let m := decide (mono = 1 ∧ b = .fm)
          let st : Status := if f = freq.toNat then .ok else .clamped
          let same : Prop := x.band = b ∧ x.frequency = f ∧ x.mono = m
          (x.state = .listening → same → run = .next (s.replied 0x49 tag st ([band] ++ u32 f ++ [3])))
          ∧ (¬(x.state = .listening ∧ same) →
            ∃ t, run = .next t ∧ apart t
              ∧ t.link.outbound.take (s.link.outbound.length + 1) = s.link.outbound
                ++ [⟨.reply, 0xC9, tag, statusCode st :: ([band] ++ u32 f ++ [tunerStateCode t.tuner.state])⟩]
              ∧ (let answered := s.replied 0x49 tag st ([band] ++ u32 f ++ [tunerStateCode t.tuner.state])
                let seeks : Prop := x.state = .seeking ∨ (x.state = .hushing ∧ (x.op = some (.seek true) ∨ x.op = some (.seek false)))
                t.link = (tells t (s.tellsRoutes t (if seeks then ends 0x4A answered else answered))).link)
              ∧ (x.state = .listening → radio → hushing t (.tune b f m))
              ∧ (x.state = .listening ∧ ¬radio ∨ x.state = .tuning ∨ x.state = .seeking → tuning t b f m)
              ∧ (x.state = .hushing → t.tuner.state = .hushing ∧ t.tuner.op = some (.tune b f m) ∧ t.tuner.hush = x.hush)
              ∧ (x.state = .seeking ∨ (x.state = .hushing ∧ ∃ up, x.op = some (.seek up)) → aborted t 0x4A))))
    ∧ (∀ (direction : Byte),
      let run := exec (.seek tag direction) s
      let stood := [direction, bandCode x.band] ++ u32 x.frequency
      completionPlaces s < 4 →
        (x.state = .off → run = .next (s.replied 0x4A tag .notReady stood))
        ∧ (x.state ≠ .off → 2 ≤ direction.toNat → run = .next (s.replied 0x4A tag .badValue stood))
        ∧ (x.state ≠ .off → direction.toNat < 2 → searching → run = .next (s.replied 0x4A tag .busy stood))
        ∧ (x.state = .listening ∨ x.state = .tuning ∨ (x.state = .hushing ∧ ¬searching) → ¬searching → direction.toNat < 2 →
          let up := decide (direction = 1)
          let first := nextChannel x.band (x.settings.step x.band) up x.frequency
          ∃ t, run = .next t ∧ apart t ∧ t.tuner.opTag = some tag
            ∧ t.link.outbound.take (s.link.outbound.length + 1) = s.link.outbound ++ [⟨.reply, 0xCA, tag, 0x01 :: stood⟩]
            ∧ t.link = (tells t (s.tellsRoutes t (s.replied 0x4A tag .started stood))).link
            ∧ (x.state = .listening → radio → hushing t (.seek up))
            ∧ (x.state = .hushing → t.tuner.state = .hushing ∧ t.tuner.op = some (.seek up) ∧ t.tuner.hush = x.hush)
            ∧ (x.state = .listening ∧ ¬radio ∨ x.state = .tuning →
                t.tuner.state = .seeking ∧ t.tuner.seek = some (up, x.frequency) ∧ t.tuner.frequency = first
                ∧ t.tuner.mono = false ∧ t.tuner.failRun = 0 ∧ posts t .visitWrite x.band first false)))
    ∧ (completionPlaces s < 4 →
      let run := exec (.scan tag) s
      let stood := [bandCode x.band, BitVec.ofNat 8 (x.list x.band).length]
      let first := rasterLow x.band (x.settings.step x.band)
      (x.state = .off → run = .next (s.replied 0x4B tag .notReady stood))
      ∧ (x.state ≠ .off → searching → run = .next (s.replied 0x4B tag .busy stood))
      ∧ (x.state = .listening ∨ x.state = .tuning ∨ x.state = .hushing → ¬searching →
        ∃ t, run = .next t ∧ apart t ∧ t.tuner.opTag = some tag
          ∧ t.link.outbound.take (s.link.outbound.length + 1) = s.link.outbound ++ [⟨.reply, 0xCB, tag, 0x01 :: stood⟩]
          ∧ t.link = (tells t (s.tellsRoutes t (s.replied 0x4B tag .started stood))).link
          ∧ (x.state = .listening → radio → hushing t .scan)
          ∧ (x.state = .hushing → t.tuner.state = .hushing ∧ t.tuner.op = some .scan ∧ t.tuner.hush = x.hush)
          ∧ (x.state = .listening ∧ ¬radio ∨ x.state = .tuning →
              t.tuner.state = .scanning ∧ t.tuner.scan = some ⟨x.frequency, x.mono, [], none, 0, false⟩
              ∧ t.tuner.frequency = first ∧ t.tuner.mono = false ∧ t.tuner.failRun = 0
              ∧ posts t .visitWrite x.band first false)))
    ∧ (let run := exec (.tunerStop tag) s
      (x.state = .off → run = .next (s.replied 0x4C tag .notReady [0]))
      ∧ (x.state ≠ .off → ¬searching → run = .next (s.replied 0x4C tag .ok [tunerStateCode x.state]))
      ∧ (x.state = .seeking → ∃ t, run = .next t ∧ apart t ∧ tuning t x.band x.frequency x.mono ∧ aborted t 0x4A
        ∧ t.link = (tells t (ends 0x4A (s.replied 0x4C tag .ok [2]))).link)
      ∧ (∀ w : ScanWork, x.state = .scanning → x.scan = some w →
        ∃ t, run = .next t ∧ apart t ∧ tuning t x.band w.returnFrequency w.returnMono ∧ aborted t 0x4B
          ∧ t.link = (tells t (ends 0x4B (s.replied 0x4C tag .ok [2]))).link)
      ∧ (x.state = .hushing → searching → s.link.opState = .running →
        ∃ t, run = .next t ∧ t.tuner.state = .listening ∧ t.tuner.poll = some (s.now + 50) ∧ t.tuner.op = none
          ∧ t.tuner.frequency = x.frequency ∧ t.tuner.band = x.band ∧ t.bus = s.bus
          ∧ aborted t (if x.op = some .scan then 0x4B else 0x4A)
          ∧ ((∀ r, (s.route r).state ≠ .waiting ∨ (s.route r).reason ≠ some .tunerBusy) →
            t.link = (tells t (ends (if x.op = some .scan then 0x4B else 0x4A) (s.replied 0x4C tag .ok [3]))).link)))

/-- TUNER_READ, LIST_READ and the preset requests: the record, the list and the preset as they stand, a preset stored from
the record or from given values, recalled into the record in OFF and as a TUNE in the other states, and cleared (R140, R157
to R161; LIST_READ of an unknown band: log entry 2). What a refused reply shows, the presence byte of a preset, and in
TUNER_READ the forms of the pending operation, the candidate and the duty and the order of the thresholds are the model's (log
entry 8); PRESET_STORE of the record ignores the other fields (log entry 18). -/
def Obligations.TunerReadsAndPresets : Prop :=
  ∀ (s : State) (tag : Byte), s.serves tag →
    exec (.tunerRead tag) s = .next (s.replied 0x4D tag .ok (tunerReadBytes s))
    ∧ (let x := s.tuner
      let low := rasterLow x.band (x.settings.step x.band)
      tunerReadBytes s = [tunerStateCode x.state]
        ++ (match x.op with
          | some (.tune b f m) => [1, 0, bandCode b] ++ u32 f ++ [flagCode m, 0]
          | some (.seek up) => [1, 1, 0, 0, 0, 0, 0, 0, flagCode up]
          | some .scan => [1, 2, 0, 0, 0, 0, 0, 0, 0]
          | none => [0, 0, 0, 0, 0, 0, 0, 0, 0])
        ++ [bandCode x.band] ++ u32 x.frequency ++ [flagCode x.mono, BitVec.ofNat 8 x.level, BitVec.ofNat 8 x.quality,
          flagCode x.stereo, BitVec.ofNat 8 x.settings.fmStep, BitVec.ofNat 8 x.settings.amStep, BitVec.ofNat 8 x.settings.fmLevel,
          BitVec.ofNat 8 x.settings.fmQuality, BitVec.ofNat 8 x.settings.amLevel, BitVec.ofNat 8 x.settings.amQuality,
          agcCode x.agcMode]
        ++ u16 x.agcA ++ [BitVec.ofNat 8 x.agcTarget, x.settings.address.setWidth 8, BitVec.ofNat 8 x.failRun]
        ++ (match x.seek with
          | some (up, start) => [1, flagCode up, 1] ++ u32 start
          | none => [0, 0, 0, 0, 0, 0, 0])
        ++ (match x.scan with
          | some w => 1 :: u32 w.returnFrequency ++ [1, flagCode w.returnMono, 1, BitVec.ofNat 8 w.list.length]
            ++ (match w.candidate with
              | some e => 1 :: u16 ((e.frequency - low) / x.settings.step x.band)
                ++ [BitVec.ofNat 8 e.level, BitVec.ofNat 8 (e.quality + if e.stereo then 128 else 0)]
              | none => [0, 0, 0, 0, 0])
            ++ [1, BitVec.ofNat 8 w.dropped, 1, flagCode w.full]
          | none => [0, 0, 0, 0, 0, 0, 0, 0, 0, 0, 0, 0, 0, 0, 0, 0, 0, 0])
        ++ u16 (if x.state = .off then 0 else x.agcA))
    ∧ (∀ b : Band,
      let step := s.tuner.settings.step b
      let low := rasterLow b step
      exec (.listRead tag (bandCode b)) s = .next (s.replied 0x4E tag .ok
        ([bandCode b] ++ u16 step ++ u32 low ++ [BitVec.ofNat 8 (s.tuner.list b).length]
          ++ ((s.tuner.list b).map fun e => u16 ((e.frequency - low) / step)
            ++ [BitVec.ofNat 8 e.level, BitVec.ofNat 8 (e.quality + if e.stereo then 128 else 0)]).flatten)))
    ∧ (∀ b : Byte, 2 ≤ b.toNat →
      exec (.listRead tag b) s = .next ({ s with free := s.free + 6 }.replied 0x4E tag .badValue (b :: freeBytes 6 s.free ++ [0])))
    ∧ (∀ (n mode band mono : Byte) (freq : Word32), n = 0 ∨ 30 < n.toNat →
      exec (.presetStore tag n mode band freq mono) s = .next (s.replied 0x4F tag .notFound [])
      ∧ exec (.presetRecall tag n) s = .next (s.replied 0x50 tag .notFound [])
      ∧ exec (.presetClear tag n) s = .next (s.replied 0x51 tag .notFound []))
    ∧ ∀ (n mode band mono : Byte) (freq : Word32) (k : Fin 30), n.toNat = k.1 + 1 →
      let x := s.tuner
      let put (p : Option Preset) : State := s.onTuner fun t => { t with presets := t.presets.set k p }
      let shown (p : Preset) : List Byte := [n, 1, bandCode p.band] ++ u32 p.frequency ++ [if p.mono then 1 else 0]
      let stands : List Byte :=
        match x.presets.get k with
        | some p => shown p
        | none => [n, 0, 0, 0, 0, 0, 0, 0]
      let run := exec (.presetStore tag n mode band freq mono) s
      exec (.presetClear tag n) s = .next ((put none).replied 0x51 tag .ok [])
      ∧ (x.presets.get k = none → exec (.presetRecall tag n) s = .next (s.replied 0x50 tag .empty []))
      ∧ (∀ p : Preset, x.presets.get k = some p → x.state = .off →
        exec (.presetRecall tag n) s
          = .next ((s.onTuner fun t => { t with band := p.band, frequency := p.frequency, mono := p.mono }).replied 0x50 tag .ok
            ([n, bandCode p.band] ++ u32 p.frequency ++ [0])))
      ∧ (∀ p : Preset, x.presets.get k = some p → x.state = .listening → x.band = p.band → x.frequency = p.frequency →
        x.mono = p.mono →
        exec (.presetRecall tag n) s = .next (s.replied 0x50 tag .ok ([n, bandCode p.band] ++ u32 p.frequency ++ [3])))
      ∧ (∀ p : Preset, x.presets.get k = some p → x.state = .scanning →
        exec (.presetRecall tag n) s = .next (s.replied 0x50 tag .busy ([n, bandCode p.band] ++ u32 p.frequency ++ [5])))
      ∧ (∀ p : Preset, x.presets.get k = some p → x.state ≠ .off → isChannel p.band (x.settings.step p.band) p.frequency = true →
        (p.mono = true → p.band = .fm) →
        let busy : Prop := x.state = .scanning ∨ (x.state = .hushing ∧ x.op = some .scan)
        ∃ t u, exec (.tune tag (bandCode p.band) (BitVec.ofNat 32 p.frequency) (if p.mono then 1 else 0)) s = .next t
          ∧ exec (.presetRecall tag n) s = .next u
          ∧ u = { t with link := { t.link with outbound := u.link.outbound } }
          ∧ u.link.outbound = t.link.outbound.set s.link.outbound.length ⟨.reply, 0xD0, tag,
              [if busy then 0x10 else 0x00, n, bandCode p.band] ++ u32 p.frequency ++ [tunerStateCode u.tuner.state]⟩)
      ∧ (2 ≤ mode.toNat → run = .next (s.replied 0x4F tag .badValue stands))
      ∧ (mode = 0 → x.state = .seeking ∨ x.state = .scanning → run = .next (s.replied 0x4F tag .busy stands))
      ∧ (mode = 0 → x.state ≠ .seeking → x.state ≠ .scanning →
        run = .next ((put (some ⟨x.band, x.frequency, x.mono⟩)).replied 0x4F tag .ok (shown ⟨x.band, x.frequency, x.mono⟩)))
      ∧ (mode = 1 → 2 ≤ band.toNat ∨ 2 ≤ mono.toNat → run = .next (s.replied 0x4F tag .badValue stands))
      ∧ ∀ b : Band, mode = 1 → band = bandCode b → mono.toNat < 2 →
        let step := x.settings.step b
        let f := nearestChannel b step freq.toNat
        let p : Preset := ⟨b, f, decide (mono = 1 ∧ b = .fm)⟩
        let inside : Prop := rasterLow b step ≤ freq.toNat ∧ freq.toNat ≤ rasterHigh b step
        (¬inside → run = .next (s.replied 0x4F tag .badValue stands))
        ∧ (inside → run = .next ((put (some p)).replied 0x4F tag (if f = freq.toNat then .ok else .clamped) (shown p)))

/-- The timers of the tuner: the hush timer silences the routes that still play the radio and begins the pending operation, the
settle timer posts the status read of the step, and the poll timer of LISTENING posts a read every 50 ms unless a transaction is
out (R32, R143 to R146), and the entry to TUNING, SEEKING or SCANNING its notice after those of the routes (R41, R151, R198).
Stated outside BUS_DOWN. (The clock: log entry 6; the order of the notices: log entry 12.) -/
def Obligations.TunerTimersExpire : Prop :=
  ∀ (s : State), s.bus.state ≠ .busDown →
    let x := s.tuner
    let read : Transaction := ⟨x.settings.address, [8], 3, false⟩
    (∀ u : State,
      (u.bus.state = .idle → u.bus.protectSlot = none → u.bus.relaySlot = none →
        busPost .tuner read u = u.onBus fun b => { b with
          state := .active, tunerSlot := some read, inProgress := some .tuner, last := .tuner, lineFast := b.fast, hold := none
          moves := [.start], movesBefore := b.moves })
      ∧ (u.bus.state = .active ∨ u.bus.state = .recovering ∨ (u.bus.state = .held ∧ u.bus.relaySlot = none) →
        busPost .tuner read u = u.onBus fun b => { b with tunerSlot := some read }))
    ∧ (x.state ≠ .hushing ∨ x.hush = none → exec .hushTimerExpiry s = .next s)
    ∧ (x.settle = none → exec .tunerSettleExpiry s = .next s)
    ∧ (x.state ≠ .listening ∨ x.poll = none → exec .listeningPollExpiry s = .next s)
    ∧ (∀ (d : Nat) (o : TunerOp), s.nothingDue → x.state = .hushing → x.hush = some d → x.op = some o →
      s.main.relayoutDue = false →
      ∃ t, exec .hushTimerExpiry s = .next t ∧ t.now = max s.now d ∧ t.tuner.hush = none ∧ t.tuner.op = none
        ∧ t.ports = s.ports ∧ t.sources = s.sources ∧ t.protect = s.protect ∧ t.measure = s.measure ∧ t.render = s.render
        ∧ t.link = (emit .tuner (tunerNoticeBytes 0 t.tuner) (s.tellsRoutes t s)).link
        ∧ t.tuner.band = (match o with
          | .tune b _ _ => b
          | _ => x.band)
        ∧ t.tuner.state = (match o with
          | .tune _ _ _ => .tuning
          | .seek _ => .seeking
          | .scan => .scanning)
        ∧ t.tuner.frequency = (match o with
          | .tune _ f _ => f
          | .seek up => nextChannel x.band (x.settings.step x.band) up x.frequency
          | .scan => rasterLow x.band (x.settings.step x.band))
        ∧ ∀ r, tunerBound s r = true →
          ((s.route r).state = .playing ∨ ((s.route r).state = .fadingOut ∧ (s.route r).purpose = some .hold) →
            (t.route r).state = .waiting ∧ (t.route r).reason = some .tunerBusy ∧ (t.route r).purpose = none
            ∧ (t.route r).conv = (s.route r).conv)
          ∧ ((s.route r).state = .fadingOut → (s.route r).purpose ≠ some .hold → t.route r = s.route r)
          ∧ ((s.route r).state = .playing ∨ (s.route r).state = .fadingOut →
            (r = .main → ∀ i ∈ s.render.present, (t.channel i).current = -1000 ∧ (t.channel i).coef = 0)
            ∧ (r = .zone → t.gain.zoneCurrent = -1000 ∧ t.gain.zoneCoef = 0)))
    ∧ (∀ d : Nat, s.nothingDue → x.settle = some d →
      let stopped := { s with now := max s.now d }.onTuner fun t => { t with settle := none }
      let step : TunerStep := if x.state = .tuning then .tuneRead else .visitRead
      (x.state = .off ∨ x.state = .hushing ∨ x.state = .listening → exec .tunerSettleExpiry s = .next stopped)
      ∧ (x.state = .tuning ∨ x.state = .seeking ∨ x.state = .scanning →
        (x.outstanding ≠ none →
          exec .tunerSettleExpiry s = .next (stopped.onTuner fun t => { t with deferred := some step }))
        ∧ (x.outstanding = none →
          exec .tunerSettleExpiry s
            = .next (busPost .tuner read (stopped.onTuner fun t => { t with outstanding := some (step, false) })))))
    ∧ ∀ d : Nat, s.nothingDue → x.state = .listening → x.poll = some d →
      let running := { s with now := max s.now d }.onTuner fun t => { t with poll := some (d + 50) }
      (x.outstanding ≠ none → exec .listeningPollExpiry s = .next running)
      ∧ (x.outstanding = none →
        exec .listeningPollExpiry s
          = .next (busPost .tuner read (running.onTuner fun t => { t with outstanding := some (.listenRead, false) })))

/-- The outcomes of the tuner's own transactions: a written tune settles, a read one enters LISTENING with what it read, the
third failure enters it with none, a listening read steps the AGC, and the visits of a seek and a scan go on, end or report
(R141, R144 to R150), with the one TUNER notice of R151, if there is one, its reason STATE before AUX before STEREO, and the
completion of a search (R151, R198). Stated where nothing else waits for the bus, no call is deferred and no re-layout point is
due, which an attach at the entry to LISTENING would carry out. (The clock: log entry 6; the notice before the completion: log
entry 12; a stale read and an early end of a search: log entry 13; the moves on the bus as a record of the last two sequences:
log entry 18.) -/
def Obligations.TunerTakesOutcomes : Prop :=
  ∀ (s : State) (x : Transaction) (st : TunerStep), s.nothingDue → s.bus.state = .active → s.bus.inProgress = some .tuner →
    s.bus.tunerSlot = some x → s.bus.protectSlot = none → s.bus.relaySlot = none → x.hold = false →
    s.tuner.outstanding = some (st, false) → s.tuner.deferred = none → s.tuner.state ≠ .off →
    s.main.relayoutDue = false →
    let y := s.tuner
    let fails : Nat := min (y.failRun + 1) 255
    let completed (t : State) (kind outcome : Byte) (part : List Byte) : Prop :=
      ∀ tag, y.opTag = some tag → ⟨.completion, 0xE0, tag, kind :: outcome :: part⟩ ∈ t.link.outbound
    let tells (reason : Byte) (t u : State) : State := emit .tuner (tunerNoticeBytes reason t.tuner) u
    let ends (kind outcome : Byte) (part : List Byte) (u : State) : State := match y.opTag with
      | some tag => u.enqueue ⟨.completion, 0xE0, tag, kind :: outcome :: part⟩
      | none => u
    let noneWaits : Prop := ∀ r, (s.route r).state ≠ .waiting ∨ (s.route r).reason ≠ some .tunerBusy
    (∀ (l q f : Byte), x.readCount = 3 →
      let level := min l.toNat 127
      let quality := min q.toNat 15
      let stereo := decide (y.band = .fm) && f.getLsbD 0
      let qualifies : Prop := y.settings.level y.band ≤ level ∧ y.settings.quality y.band ≤ quality
      ∃ t, exec (.transactionEnd (.done [l, q, f])) s = .next t ∧ t.ports = s.ports ∧ t.protect = s.protect
        ∧ t.measure = s.measure ∧ t.sources = s.sources ∧ t.now = s.now
        ∧ (st = .tuneRead → t.tuner.state = .listening ∧ t.tuner.level = level ∧ t.tuner.quality = quality
            ∧ t.tuner.stereo = stereo ∧ t.tuner.failRun = 0 ∧ t.tuner.poll = some (s.now + 50)
            ∧ t.tuner.frequency = y.frequency ∧ t.tuner.agcA = y.agcA ∧ t.bus.state = .idle
            ∧ (noneWaits → t.link = (tells 0 t s).link))
        ∧ (st = .listenRead → t.tuner.state = y.state ∧ t.tuner.level = level ∧ t.tuner.quality = quality
            ∧ t.tuner.stereo = stereo ∧ t.tuner.failRun = 0 ∧ t.bus.state = .idle ∧ t.main = s.main ∧ t.zone = s.zone
            ∧ t.link = (if 3 ≤ y.failRun then tells 2 t s else if stereo = y.stereo then s else tells 1 t s).link
            ∧ (y.agcMode = .closed →
                (t.tuner.agcA : Int) = max 0 (min 1023 ((y.agcA : Int) - 4 * ((level : Int) - y.agcTarget))))
            ∧ (y.agcMode ≠ .closed → t.tuner.agcA = y.agcA))
        ∧ (∀ up start, st = .visitRead → y.state = .seeking → y.seek = some (up, start) →
            let part := [bandCode y.band] ++ u32 y.frequency ++ [BitVec.ofNat 8 level, BitVec.ofNat 8 quality, flagCode stereo]
            (y.frequency = start → t.tuner.state = .listening ∧ t.tuner.opTag = none ∧ completed t 0x4A 0x02 part
                ∧ (noneWaits → t.link = (ends 0x4A 0x02 part (tells 0 t s)).link))
            ∧ (y.frequency ≠ start → qualifies →
                t.tuner.state = .listening ∧ t.tuner.opTag = none ∧ t.tuner.frequency = y.frequency
                ∧ completed t 0x4A 0x01 part ∧ (noneWaits → t.link = (ends 0x4A 0x01 part (tells 0 t s)).link))
            ∧ (y.frequency ≠ start → ¬qualifies →
                t.tuner.state = .seeking ∧ t.tuner.opTag = y.opTag
                ∧ t.tuner.frequency = nextChannel y.band (y.settings.step y.band) up y.frequency
                ∧ t.tuner.outstanding = some (.visitWrite, false) ∧ t.bus.state = .active ∧ t.link = s.link))
        ∧ ∀ w : ScanWork, st = .visitRead → y.state = .scanning → y.scan = some w →
            let here : Station := ⟨y.frequency, level, quality, stereo⟩
            let close (c : ScanWork) : ScanWork :=
              match c.candidate with
              | none => c
              | some best =>
                if c.list.length < 48 then { c with list := c.list ++ [best], candidate := none }
                else { c with candidate := none, full := true, dropped := min (c.dropped + 1) 255 }
            let treated : ScanWork :=
              if qualifies then
                match w.candidate with
                | some best => if best.level < level then { w with candidate := some here } else w
                | none => { w with candidate := some here }
              else close w
            (y.frequency ≠ rasterHigh y.band (y.settings.step y.band) →
              t.tuner.state = .scanning ∧ t.tuner.scan = some treated ∧ t.tuner.opTag = y.opTag
              ∧ t.tuner.frequency = y.frequency + y.settings.step y.band ∧ t.tuner.fmList = y.fmList
              ∧ t.tuner.amList = y.amList ∧ t.tuner.outstanding = some (.visitWrite, false) ∧ t.link = s.link)
            ∧ (y.frequency = rasterHigh y.band (y.settings.step y.band) →
              t.tuner.state = .tuning ∧ t.tuner.frequency = w.returnFrequency ∧ t.tuner.mono = w.returnMono
              ∧ t.tuner.list y.band = (close treated).list ∧ t.tuner.opTag = none
              ∧ (let part := [bandCode y.band, BitVec.ofNat 8 (close treated).list.length, flagCode (close treated).full,
                  BitVec.ofNat 8 (close treated).dropped]
                completed t 0x4B 0x00 part ∧ t.link = (tells 0 t (ends 0x4B 0x00 part s)).link)))
    ∧ (x.readCount = 0 → st = .tuneWrite ∨ st = .visitWrite →
      exec (.transactionEnd (.done [])) s = .next { s with
        tuner := { y with
          failRun := 0, outstanding := none, settle := some (s.now + if y.band = .fm then 8 else 40) }
        bus := { s.bus with
          state := .idle, tunerSlot := none, inProgress := none
          moves := s.bus.moves ++ .address x.address false :: x.write.map .write ++ [.stop] } })
    ∧ ∀ reading : Bool, (if reading then x.readCount ≠ 0 else x.write ≠ [] ∨ x.readCount = 0) →
      ∃ t, exec (.transactionEnd (.nackAddr reading)) s = .next t ∧ t.bus.nacks = min (s.bus.nacks + 1) 65535 ∧ t.now = s.now
      ∧ t.ports = s.ports ∧ t.protect = s.protect ∧ t.measure = s.measure ∧ t.sources = s.sources
      ∧ (st = .tuneWrite ∨ st = .tuneRead →
          (fails < 3 → t.tuner = { y with failRun := fails, outstanding := some (st, false) } ∧ t.bus.moves = [.start]
            ∧ t.bus.movesBefore = s.bus.moves ++ (
                if reading then
                  (if x.write = [] then [] else .address x.address false :: x.write.map .write ++ [.again])
                    ++ [.address x.address true, .stop]
                else [.address x.address false, .stop])
            ∧ t.bus.state = .active ∧ t.main = s.main ∧ t.zone = s.zone ∧ t.link = s.link)
          ∧ (3 ≤ fails → t.tuner.state = .listening ∧ t.tuner.level = 0 ∧ t.tuner.quality = 0 ∧ t.tuner.stereo = false
            ∧ t.bus.state = .idle ∧ (noneWaits → t.link = (tells 0 t s).link)))
      ∧ (st = .listenRead → t.tuner = { y with failRun := fails, outstanding := none, level := 0, quality := 0 }
          ∧ t.bus.state = .idle ∧ t.main = s.main ∧ t.zone = s.zone
          ∧ t.link = (if fails = 3 then tells 2 t s else s).link)
      ∧ (st = .visitWrite ∨ st = .visitRead → y.state = .seeking → y.seek ≠ none → 3 ≤ fails →
          t.tuner.state = .listening ∧ t.tuner.opTag = none
          ∧ (let part := [bandCode y.band] ++ u32 y.frequency ++ [0, 0, flagCode y.stereo]
            completed t 0x4A 0x11 part ∧ (noneWaits → t.link = (ends 0x4A 0x11 part (tells 0 t s)).link)))
      ∧ ∀ w : ScanWork, st = .visitWrite ∨ st = .visitRead → y.state = .scanning → y.scan = some w → 3 ≤ fails →
          t.tuner.state = .listening ∧ t.tuner.opTag = none ∧ t.tuner.list y.band = y.list y.band
          ∧ (let part := [bandCode y.band, BitVec.ofNat 8 (y.list y.band).length, flagCode w.full, BitVec.ofNat 8 w.dropped]
            completed t 0x4B 0x11 part ∧ (noneWaits → t.link = (ends 0x4B 0x11 part (tells 0 t s)).link))

/-! ## The auxiliary bus (chapter 8) -/

/-- RELAY is checked and posted, running at once on a free bus and failing at once in BUS_DOWN; AUX_READ shows the controller
and clears its counters on request; AUX_SET stores the speed of the next start (R165, R167, R172, R174 to R176, R194, R196).
(The clock: log entry 6; the bus state of a STARTED reply, what a refused RELAY shows, the codes of the speed and of a slot, and
the retry time during a recovery: log entry 8.) -/
def Obligations.RelayAndAuxRequests : Prop :=
  (∀ (s : State) (tag address hold reads : Byte) (write : List Byte), s.servesLong tag → write.length ≤ 236 →
    let b := s.bus
    let run := exec (.relay tag address hold reads write) s
    let stood := [address, BitVec.ofNat 8 write.length, reads, busStateCode b.state]
    let bad : Prop := 128 ≤ address.toNat ∨ 32 < write.length ∨ 32 < reads.toNat ∨ 2 ≤ hold.toNat
    let tuning : Prop := address.setWidth 7 = s.tuner.settings.address
      ∧ (s.tuner.state = .hushing ∨ s.tuner.state = .tuning ∨ s.tuner.state = .seeking ∨ s.tuner.state = .scanning)
    let x : Transaction := ⟨address.setWidth 7, write, reads.toNat, decide (hold = 1)⟩
    let begun (u : Bus) (line : Bool) (move : BusMove) : Bus :=
      { u with
        state := .active, lineFast := line, moves := [move], movesBefore := u.moves, last := .relay, inProgress := some .relay
        hold := none, relaySlot := some x, relayTag := some tag, relayAddress := address.setWidth 7 }
    (bad → run = .next (s.replied 0x58 tag .badValue stood))
    ∧ (¬bad → b.relayTag ≠ none ∨ tuning → run = .next (s.replied 0x58 tag .busy stood))
    ∧ (¬bad → b.relayTag = none → ¬tuning →
      (b.state = .held → run = .next ((s.onBus fun u => begun u u.lineFast .again).replied 0x58 tag .started stood))
      ∧ (b.state = .idle → b.tunerSlot = none → b.protectSlot = none →
        run = .next ((s.onBus fun u => begun u u.fast .start).replied 0x58 tag .started stood))
      ∧ (b.state = .active ∨ b.state = .recovering →
        run = .next ((s.onBus fun u =>
          { u with relaySlot := some x, relayTag := some tag, relayAddress := address.setWidth 7 }).replied 0x58 tag .started stood))
      ∧ (b.state = .busDown →
        run = .next (((s.onBus fun u => { u with relayAddress := address.setWidth 7 }).replied 0x58 tag .started stood).enqueue
          ⟨.completion, 0xE0, tag, [0x58, 0x11, address, 0, 0, 0, 0]⟩))))
  ∧ ∀ (s : State) (tag v : Byte), s.serves tag →
    (let b := s.bus
      let occupied (q : Requester) (x : Option Transaction) : List Byte := match x with
        | some y => [if b.inProgress = some q then 2 else 1, 1, y.address.setWidth 8]
        | none => [0, 0, 0]
      auxBytes s = [busStateCode b.state, flagCode b.fast, requesterCode b.last]
        ++ (match b.inProgress with
          | some q => [1, requesterCode q]
          | none => [0, 0])
        ++ occupied .tuner b.tunerSlot ++ occupied .protect b.protectSlot ++ occupied .relay b.relaySlot
        ++ (match b.hold with
          | some d => [1, BitVec.ofNat 8 (d - s.now)]
          | none => [0, 0])
        ++ (match b.retry with
          | some d => 1 :: u16 (d - s.now)
          | none => [0, 0, 0])
        ++ u16 b.nacks ++ u16 b.stucks ++ u16 b.holdTimeouts)
    ∧ [Requester.tuner, .protect, .relay].map (slotOf s.bus) = [s.bus.tunerSlot, s.bus.protectSlot, s.bus.relaySlot]
    ∧ (v = 0 → exec (.auxRead tag v) s = .next (s.replied 0x59 tag .ok (auxBytes s)))
    ∧ (v = 1 → exec (.auxRead tag v) s
        = .next ((s.onBus fun b => { b with nacks := 0, stucks := 0, holdTimeouts := 0 }).replied 0x59 tag .ok (auxBytes s)))
    ∧ (2 ≤ v.toNat → exec (.auxRead tag v) s = .next (s.replied 0x59 tag .badValue (auxBytes s)))
    ∧ (v.toNat < 2 →
      exec (.auxSet tag v) s = .next ((s.onBus fun b => { b with fast := decide (v = 1) }).replied 0x5A tag .ok [v]))
    ∧ (2 ≤ v.toNat → exec (.auxSet tag v) s = .next (s.replied 0x5A tag .badValue [if s.bus.fast then 1 else 0]))

/-- A relayed transaction ends with its completion: DONE with the bytes read, HELD when it asked to hold, or NACK, and the
controller has then made the sequence of the bus as far as the answer let it: the address in write direction and the write
bytes, a repeated start and the address in read direction, the bytes read, each acknowledged but the last, and the stop. At the
end of a transaction of any requester, or of a hold, the waiting requester that comes first in the rotation after the last one
granted is granted with a start, after the whole sequence that ended (R163, R165 to R169, R174, R198). The clock is the model's
(log entry 6), and so are the answer as an operand and the moves as a record of the last two sequences (log entry 18). -/
def Obligations.RelayEndsAndTheBusRotates : Prop :=
  let wrote (x : Transaction) : List BusMove :=
    if x.write ≠ [] ∨ x.readCount = 0 then .address x.address false :: x.write.map .write else []
  let turned (x : Transaction) : List BusMove :=
    if x.readCount = 0 then [] else if x.write = [] then [.address x.address true] else [.again, .address x.address true]
  let took (bytes : List Byte) : List BusMove :=
    bytes.dropLast.map (.read · true) ++ bytes.getLast?.toList.map (.read · false)
  let made (x : Transaction) (a : BusAnswer) : List BusMove :=
    match a with
    | .done bytes => wrote x ++ turned x ++ took bytes ++ if x.hold then [] else [.stop]
    | .nackAddr false => [.address x.address false, .stop]
    | .nackAddr true => wrote x ++ turned x ++ [.stop]
    | .nackData i => .address x.address false :: (x.write.take (i + 1)).map .write ++ [.stop]
  (∀ (s : State) (x : Transaction) (tag : Byte), s.nothingDue → s.bus.state = .active → s.bus.inProgress = some .relay →
    s.bus.relaySlot = some x → s.bus.relayTag = some tag →
    let address : Byte := s.bus.relayAddress.setWidth 8
    let closed (u : Bus) (st : BusState) (a : BusAnswer) : Bus :=
      { u with state := st, moves := u.moves ++ made x a, inProgress := none, relaySlot := none, relayTag := none }
    let done (t : State) (outcome : Byte) (part : List Byte) : Prop :=
      t.link = { s.link with outbound := s.link.outbound ++ [⟨.completion, 0xE0, tag, 0x58 :: outcome :: part⟩] }
    (∀ bytes : List Byte, bytes.length = x.readCount →
      ∃ t, exec (.transactionEnd (.done bytes)) s = .next t ∧ t = { s with bus := t.bus, link := t.link }
        ∧ done t 0x00 ([address, 0, 0, if x.hold then 1 else 0, BitVec.ofNat 8 bytes.length] ++ bytes)
        ∧ (x.hold = true → t.bus = { closed s.bus .held (.done bytes) with hold := some (s.now + 50) })
        ∧ (x.hold = false → s.bus.tunerSlot = none → s.bus.protectSlot = none →
            t.bus = closed s.bus .idle (.done bytes)))
    ∧ (s.bus.tunerSlot = none → s.bus.protectSlot = none →
      let refused (part : List Byte) (a : BusAnswer) : Prop :=
        ∃ t, exec (.transactionEnd a) s = .next t ∧ t = { s with bus := t.bus, link := t.link } ∧ done t 0x12 part
        ∧ t.bus = { closed s.bus .idle a with nacks := min (s.bus.nacks + 1) 65535 }
      (x.write ≠ [] ∨ x.readCount = 0 → refused [address, 1, 0, 0, 0] (.nackAddr false))
      ∧ (x.readCount ≠ 0 → refused [address, 1, 0, 0, 0] (.nackAddr true))
      ∧ ∀ i : Nat, i < x.write.length → refused [address, 2, BitVec.ofNat 8 i, 0, 0] (.nackData i)))
  ∧ (∀ (s : State) (q w : Requester) (x y : Transaction) (a : BusAnswer), s.nothingDue → s.link.opState ≠ .waking →
    s.bus.state = .active → s.bus.inProgress = some q → s.bus.last = q → slotOf s.bus q = some x →
    (∃ bytes, a = .done bytes ∧ bytes.length = x.readCount ∧ x.hold = false)
      ∨ (a = .nackAddr false ∧ (x.write ≠ [] ∨ x.readCount = 0)) ∨ (a = .nackAddr true ∧ x.readCount ≠ 0)
      ∨ (∃ i, a = .nackData i ∧ i < x.write.length) →
    slotOf s.bus w = some y →
    (q = .tuner ∧ (w = .protect ∨ (w = .relay ∧ s.bus.protectSlot = none)))
      ∨ (q = .protect ∧ (w = .relay ∨ (w = .tuner ∧ s.bus.relaySlot = none)))
      ∨ (q = .relay ∧ (w = .tuner ∨ (w = .protect ∧ s.bus.tunerSlot = none))) →
    ∃ t, exec (.transactionEnd a) s = .next t
      ∧ t.bus.state = .active ∧ t.bus.inProgress = some w ∧ t.bus.last = w ∧ slotOf t.bus w = some y
      ∧ t.bus.lineFast = s.bus.fast ∧ t.bus.moves = [.start] ∧ t.bus.movesBefore = s.bus.moves ++ made x a
      ∧ ∀ v, v ≠ q → v ≠ w → slotOf t.bus v = slotOf s.bus v)
  ∧ (∀ (s : State) (a : BusAnswer), s.nothingDue → s.bus.state ≠ .active → exec (.transactionEnd a) s = .next s)
  ∧ (∀ (s : State), s.bus.state ≠ .held ∨ s.bus.hold = none → exec .holdTimerExpiry s = .next s)
  ∧ ∀ (s : State) (d : Nat), s.nothingDue → s.bus.state = .held → s.bus.hold = some d →
    let ended (u : Bus) : Bus :=
      { u with state := .idle, moves := u.moves ++ [.stop], hold := none, holdTimeouts := min (u.holdTimeouts + 1) 65535 }
    ∃ t, exec .holdTimerExpiry s = .next t ∧ t = { s with now := max s.now d, bus := t.bus }
      ∧ (s.bus.tunerSlot = none → s.bus.protectSlot = none → s.bus.relaySlot = none → t.bus = ended s.bus)
      ∧ (∀ q : Requester, s.bus.last = .relay →
        (q = .tuner ∧ s.bus.tunerSlot ≠ none) ∨ (q = .protect ∧ s.bus.tunerSlot = none ∧ s.bus.protectSlot ≠ none) →
        t.bus = { ended s.bus with
          state := .active, lineFast := s.bus.fast, moves := [.start], movesBefore := s.bus.moves ++ [.stop], last := q
          inProgress := some q })

/-- A stuck bus ends the transaction STUCK and is clocked free: a recovery that succeeds leaves the bus IDLE and grants what
waits, one that fails takes it to BUS_DOWN, where every waiting transaction fails and a recovery is tried again each second
(R170 to R173); each recovery runs at the speed in force when it begins (R176). The clock is the model's (log entry 6), and so
are the address of a stuck bus that was held and the moves as a record of the last two sequences (log entry 18), and the place
of the STUCK notice before the completion (log entry 12). -/
def Obligations.StuckBusRecovers : Prop :=
  let frees (l : RecoveryLines) : Prop :=
    l.clockHeld = false ∧ (∃ high ∈ l.dataAfterPulse.take 9, high = true) ∧ l.dataHigh = true ∧ l.clockHigh = true
  let clocked (l : RecoveryLines) : List BusMove :=
    let seen := l.dataAfterPulse.take 9
    List.replicate (min seen.length ((seen.takeWhile fun high => !high).length + 1)) .pulse
      ++ if l.clockHeld then [] else [.stop]
  (∀ (s : State) (line : StuckLine), s.nothingDue →
    let found (q : List Byte) (address : Byte) (u : State) : State :=
      emit .aux ([0, 3] ++ q ++ [address, if line = .dataLow then 0 else 1] ++ u16 u.bus.nacks ++ u16 u.bus.stucks
        ++ u16 u.bus.holdTimeouts) u
    let stuck := s.onBus fun b => { b with state := .recovering, lineFast := b.fast, hold := none, stucks := min (b.stucks + 1) 65535 }
    (s.bus.state = .held → exec (.stuckDetect line) s = .next (found [0, 0] 0 stuck))
    ∧ (∀ (x : Transaction) (tag : Byte), s.bus.state = .active → s.bus.inProgress = some .relay → s.bus.relaySlot = some x →
      s.bus.relayTag = some tag →
      exec (.stuckDetect line) s = .next
        (((found [1, 2] (x.address.setWidth 8) stuck).onBus fun b =>
            { b with inProgress := none, relaySlot := none, relayTag := none }).enqueue
          ⟨.completion, 0xE0, tag, [0x58, 0x14, s.bus.relayAddress.setWidth 8, 0, 0, 0, 0]⟩))
    ∧ (s.bus.state ≠ .held → s.bus.state ≠ .active → exec (.stuckDetect line) s = .next s))
  ∧ (∀ (s : State) (l : RecoveryLines), s.nothingDue → s.bus.state = .recovering →
    (frees l → s.bus.tunerSlot = none → s.bus.protectSlot = none → s.bus.relaySlot = none →
      exec (.recoveryEnd l) s = .next (s.onBus fun b => { b with state := .idle, moves := clocked l, movesBefore := b.moves }))
    ∧ (frees l → ∀ x : Transaction, s.bus.relaySlot = some x → s.bus.tunerSlot = none → s.bus.protectSlot = none →
      exec (.recoveryEnd l) s = .next (s.onBus fun b =>
        { b with
          state := .active, lineFast := b.fast, moves := [.start], movesBefore := clocked l, last := .relay
          inProgress := some .relay, hold := none }))
    ∧ (¬frees l →
      ∃ t, exec (.recoveryEnd l) s = .next t ∧ t.bus.state = .busDown ∧ t.bus.moves = clocked l ∧ t.bus.movesBefore = s.bus.moves
        ∧ t.bus.retry = some (s.now + 1000)
        ∧ t.bus.retrying = false ∧ t.bus.inProgress = none
        ∧ t.bus.relaySlot = none ∧ t.bus.protectSlot = none ∧ t.bus.tunerSlot = none
        ∧ t.bus.nacks = s.bus.nacks ∧ t.bus.stucks = s.bus.stucks
        ∧ (∀ tag, s.bus.relaySlot ≠ none → s.bus.relayTag = some tag →
            ⟨.completion, 0xE0, tag, [0x58, 0x11, s.bus.relayAddress.setWidth 8, 0, 0, 0, 0]⟩ ∈ t.link.outbound)
        ∧ t.ports = s.ports ∧ t.sources = s.sources ∧ t.pins = s.pins ∧ t.now = s.now))
  ∧ (∀ (s : State) (l : RecoveryLines), s.nothingDue → s.bus.state = .busDown → s.bus.retrying = true →
    s.bus.tunerSlot = none → s.bus.protectSlot = none → s.bus.relaySlot = none →
    let up := s.onBus fun b => { b with state := .idle, moves := clocked l, movesBefore := b.moves, retry := none, retrying := false }
    (frees l → exec (.recoveryEnd l) s = .next (emit .aux ([1, 0, 0, 0, 0, 0] ++ u16 s.bus.nacks ++ u16 s.bus.stucks
      ++ u16 s.bus.holdTimeouts) up))
    ∧ (¬frees l → exec (.recoveryEnd l) s
      = .next (s.onBus fun b => { b with
        moves := clocked l, movesBefore := b.moves, retry := some (s.now + 1000), retrying := false })))
  ∧ (∀ (s : State) (l : RecoveryLines), s.nothingDue → s.bus.state ≠ .recovering → (s.bus.state ≠ .busDown ∨ s.bus.retrying = false) →
    exec (.recoveryEnd l) s = .next s)
  ∧ (∀ (s : State), s.bus.state ≠ .busDown ∨ s.bus.retry = none → exec .busRetryTimerExpiry s = .next s)
  ∧ ∀ (s : State) (d : Nat), s.nothingDue → s.bus.state = .busDown → s.bus.retry = some d →
    exec .busRetryTimerExpiry s
      = .next ({ s with now := max s.now d }.onBus fun b => { b with retry := none, retrying := true, lineFast := b.fast })

/-! ## What every step keeps -/

/-- The link unit never holds more than its places: eight requests, eight replies, four long operations and sixteen notices,
whatever command runs, and the gap timer runs inside a frame only (R177 to R182). The gap timer as a field is the model's
(log entry 6). -/
def Obligations.StepsKeepTheLinkWithinItsPlaces : Prop :=
  ∀ (s t : State), s.linkWithin → step s = .next t → t.linkWithin

/-- No judgement is ever left due after a step: a hush goes on only while a route plays the radio, a WAKING only while a start is
unfinished, a QUIETING only while a route is not SILENT; and a hush always has its pending operation, and the tuner stays OFF
while the part is not RUNNING (R98, R142, R143, R185, R186). -/
def Obligations.StepsLeaveNoJudgementDue : Prop :=
  ∀ (s t : State), s.nothingDue → (s.tuner.state = .hushing → s.tuner.op ≠ none) → step s = .next t →
    t.nothingDue ∧ (t.tuner.state = .hushing → t.tuner.op ≠ none) ∧ (s.tunerRuns → t.tunerRuns)

/-- The amplifiers stay safe under every step: an enable line is high exactly in POWERING and ON, a slot whose group is not ON
is silent, a level stays in range with its own coefficient, and the volumes stay on 0.5 dB steps inside their ranges (R68, R70,
R78, R79, R95). -/
def Obligations.StepsKeepAmplifiersAndVolumesSafe : Prop :=
  ∀ (s t : State), s.amplifiersSafe → s.volumesLegal → step s = .next t → t.amplifiersSafe ∧ t.volumesLegal

/-- The machine after reset, and after either hard reset from any state, meets every condition that the steps keep. -/
def Obligations.ResetsMeetTheInvariants : Prop :=
  (State.reset.linkWithin ∧ State.reset.nothingDue ∧ State.reset.amplifiersSafe ∧ State.reset.volumesLegal
    ∧ State.reset.tuner.state ≠ .hushing ∧ State.reset.tunerRuns)
  ∧ ∀ (s : State) (cause : HardCause) (high : Bool), ∃ t, exec (.hardReset cause high) s = .next t
    ∧ t.linkWithin ∧ t.nothingDue ∧ t.amplifiersSafe ∧ t.volumesLegal ∧ t.tuner.state ≠ .hushing ∧ t.tunerRuns
end

