-- ==== Sys2Proof/Laws/State.lean ====
section
/-! SUPPORT. What each update of the state leaves in each field: one lemma for each field of each update, true by `rfl`. -/

namespace Sys2Proof.Machine

variable (s : State)

@[simp] theorem onLink_link (f : Link → Link) : (s.onLink f).link = f s.link := rfl
@[simp] theorem onLink_ports (f : Link → Link) : (s.onLink f).ports = s.ports := rfl
@[simp] theorem onLink_sources (f : Link → Link) : (s.onLink f).sources = s.sources := rfl
@[simp] theorem onLink_main (f : Link → Link) : (s.onLink f).main = s.main := rfl
@[simp] theorem onLink_zone (f : Link → Link) : (s.onLink f).zone = s.zone := rfl
@[simp] theorem onLink_render (f : Link → Link) : (s.onLink f).render = s.render := rfl
@[simp] theorem onLink_gain (f : Link → Link) : (s.onLink f).gain = s.gain := rfl
@[simp] theorem onLink_protect (f : Link → Link) : (s.onLink f).protect = s.protect := rfl
@[simp] theorem onLink_measure (f : Link → Link) : (s.onLink f).measure = s.measure := rfl
@[simp] theorem onLink_tuner (f : Link → Link) : (s.onLink f).tuner = s.tuner := rfl
@[simp] theorem onLink_bus (f : Link → Link) : (s.onLink f).bus = s.bus := rfl
@[simp] theorem onLink_pins (f : Link → Link) : (s.onLink f).pins = s.pins := rfl
@[simp] theorem onLink_now (f : Link → Link) : (s.onLink f).now = s.now := rfl
@[simp] theorem onLink_free (f : Link → Link) : (s.onLink f).free = s.free := rfl
@[simp] theorem onLink_pending (f : Link → Link) : (s.onLink f).pending = s.pending := rfl
@[simp] theorem onLink_route (f : Link → Link) (r : RouteId) : (s.onLink f).route r = s.route r := by cases r <;> rfl
@[simp] theorem onLink_channel (f : Link → Link) (j : Fin 12) : (s.onLink f).channel j = s.channel j := rfl
@[simp] theorem onLink_group (f : Link → Link) (g0 : Fin 6) : (s.onLink f).group g0 = s.group g0 := rfl
@[simp] theorem onLink_port (f : Link → Link) (p0 : Fin 10) : (s.onLink f).port p0 = s.port p0 := rfl
@[simp] theorem onLink_source (f : Link → Link) (i0 : Fin 12) : (s.onLink f).source i0 = s.source i0 := rfl

@[simp] theorem onRender_link (f : Renderer → Renderer) : (s.onRender f).link = s.link := rfl
@[simp] theorem onRender_ports (f : Renderer → Renderer) : (s.onRender f).ports = s.ports := rfl
@[simp] theorem onRender_sources (f : Renderer → Renderer) : (s.onRender f).sources = s.sources := rfl
@[simp] theorem onRender_main (f : Renderer → Renderer) : (s.onRender f).main = s.main := rfl
@[simp] theorem onRender_zone (f : Renderer → Renderer) : (s.onRender f).zone = s.zone := rfl
@[simp] theorem onRender_render (f : Renderer → Renderer) : (s.onRender f).render = f s.render := rfl
@[simp] theorem onRender_gain (f : Renderer → Renderer) : (s.onRender f).gain = s.gain := rfl
@[simp] theorem onRender_protect (f : Renderer → Renderer) : (s.onRender f).protect = s.protect := rfl
@[simp] theorem onRender_measure (f : Renderer → Renderer) : (s.onRender f).measure = s.measure := rfl
@[simp] theorem onRender_tuner (f : Renderer → Renderer) : (s.onRender f).tuner = s.tuner := rfl
@[simp] theorem onRender_bus (f : Renderer → Renderer) : (s.onRender f).bus = s.bus := rfl
@[simp] theorem onRender_pins (f : Renderer → Renderer) : (s.onRender f).pins = s.pins := rfl
@[simp] theorem onRender_now (f : Renderer → Renderer) : (s.onRender f).now = s.now := rfl
@[simp] theorem onRender_free (f : Renderer → Renderer) : (s.onRender f).free = s.free := rfl
@[simp] theorem onRender_pending (f : Renderer → Renderer) : (s.onRender f).pending = s.pending := rfl
@[simp] theorem onRender_route (f : Renderer → Renderer) (r : RouteId) : (s.onRender f).route r = s.route r := by cases r <;> rfl
@[simp] theorem onRender_channel (f : Renderer → Renderer) (j : Fin 12) : (s.onRender f).channel j = s.channel j := rfl
@[simp] theorem onRender_group (f : Renderer → Renderer) (g0 : Fin 6) : (s.onRender f).group g0 = s.group g0 := rfl
@[simp] theorem onRender_port (f : Renderer → Renderer) (p0 : Fin 10) : (s.onRender f).port p0 = s.port p0 := rfl
@[simp] theorem onRender_source (f : Renderer → Renderer) (i0 : Fin 12) : (s.onRender f).source i0 = s.source i0 := rfl

@[simp] theorem onGain_link (f : Gain → Gain) : (s.onGain f).link = s.link := rfl
@[simp] theorem onGain_ports (f : Gain → Gain) : (s.onGain f).ports = s.ports := rfl
@[simp] theorem onGain_sources (f : Gain → Gain) : (s.onGain f).sources = s.sources := rfl
@[simp] theorem onGain_main (f : Gain → Gain) : (s.onGain f).main = s.main := rfl
@[simp] theorem onGain_zone (f : Gain → Gain) : (s.onGain f).zone = s.zone := rfl
@[simp] theorem onGain_render (f : Gain → Gain) : (s.onGain f).render = s.render := rfl
@[simp] theorem onGain_gain (f : Gain → Gain) : (s.onGain f).gain = f s.gain := rfl
@[simp] theorem onGain_protect (f : Gain → Gain) : (s.onGain f).protect = s.protect := rfl
@[simp] theorem onGain_measure (f : Gain → Gain) : (s.onGain f).measure = s.measure := rfl
@[simp] theorem onGain_tuner (f : Gain → Gain) : (s.onGain f).tuner = s.tuner := rfl
@[simp] theorem onGain_bus (f : Gain → Gain) : (s.onGain f).bus = s.bus := rfl
@[simp] theorem onGain_pins (f : Gain → Gain) : (s.onGain f).pins = s.pins := rfl
@[simp] theorem onGain_now (f : Gain → Gain) : (s.onGain f).now = s.now := rfl
@[simp] theorem onGain_free (f : Gain → Gain) : (s.onGain f).free = s.free := rfl
@[simp] theorem onGain_pending (f : Gain → Gain) : (s.onGain f).pending = s.pending := rfl
@[simp] theorem onGain_route (f : Gain → Gain) (r : RouteId) : (s.onGain f).route r = s.route r := by cases r <;> rfl
@[simp] theorem onGain_group (f : Gain → Gain) (g0 : Fin 6) : (s.onGain f).group g0 = s.group g0 := rfl
@[simp] theorem onGain_port (f : Gain → Gain) (p0 : Fin 10) : (s.onGain f).port p0 = s.port p0 := rfl
@[simp] theorem onGain_source (f : Gain → Gain) (i0 : Fin 12) : (s.onGain f).source i0 = s.source i0 := rfl

@[simp] theorem onProtect_link (f : Protect → Protect) : (s.onProtect f).link = s.link := rfl
@[simp] theorem onProtect_ports (f : Protect → Protect) : (s.onProtect f).ports = s.ports := rfl
@[simp] theorem onProtect_sources (f : Protect → Protect) : (s.onProtect f).sources = s.sources := rfl
@[simp] theorem onProtect_main (f : Protect → Protect) : (s.onProtect f).main = s.main := rfl
@[simp] theorem onProtect_zone (f : Protect → Protect) : (s.onProtect f).zone = s.zone := rfl
@[simp] theorem onProtect_render (f : Protect → Protect) : (s.onProtect f).render = s.render := rfl
@[simp] theorem onProtect_gain (f : Protect → Protect) : (s.onProtect f).gain = s.gain := rfl
@[simp] theorem onProtect_protect (f : Protect → Protect) : (s.onProtect f).protect = f s.protect := rfl
@[simp] theorem onProtect_measure (f : Protect → Protect) : (s.onProtect f).measure = s.measure := rfl
@[simp] theorem onProtect_tuner (f : Protect → Protect) : (s.onProtect f).tuner = s.tuner := rfl
@[simp] theorem onProtect_bus (f : Protect → Protect) : (s.onProtect f).bus = s.bus := rfl
@[simp] theorem onProtect_pins (f : Protect → Protect) : (s.onProtect f).pins = s.pins := rfl
@[simp] theorem onProtect_now (f : Protect → Protect) : (s.onProtect f).now = s.now := rfl
@[simp] theorem onProtect_free (f : Protect → Protect) : (s.onProtect f).free = s.free := rfl
@[simp] theorem onProtect_pending (f : Protect → Protect) : (s.onProtect f).pending = s.pending := rfl
@[simp] theorem onProtect_route (f : Protect → Protect) (r : RouteId) : (s.onProtect f).route r = s.route r := by cases r <;> rfl
@[simp] theorem onProtect_channel (f : Protect → Protect) (j : Fin 12) : (s.onProtect f).channel j = s.channel j := rfl
@[simp] theorem onProtect_port (f : Protect → Protect) (p0 : Fin 10) : (s.onProtect f).port p0 = s.port p0 := rfl
@[simp] theorem onProtect_source (f : Protect → Protect) (i0 : Fin 12) : (s.onProtect f).source i0 = s.source i0 := rfl

@[simp] theorem onMeasure_link (f : Measurement → Measurement) : (State.onMeasure s f).link = s.link := rfl
@[simp] theorem onMeasure_ports (f : Measurement → Measurement) : (State.onMeasure s f).ports = s.ports := rfl
@[simp] theorem onMeasure_sources (f : Measurement → Measurement) : (State.onMeasure s f).sources = s.sources := rfl
@[simp] theorem onMeasure_main (f : Measurement → Measurement) : (State.onMeasure s f).main = s.main := rfl
@[simp] theorem onMeasure_zone (f : Measurement → Measurement) : (State.onMeasure s f).zone = s.zone := rfl
@[simp] theorem onMeasure_render (f : Measurement → Measurement) : (State.onMeasure s f).render = s.render := rfl
@[simp] theorem onMeasure_gain (f : Measurement → Measurement) : (State.onMeasure s f).gain = s.gain := rfl
@[simp] theorem onMeasure_protect (f : Measurement → Measurement) : (State.onMeasure s f).protect = s.protect := rfl
@[simp] theorem onMeasure_measure (f : Measurement → Measurement) : (State.onMeasure s f).measure = f s.measure := rfl
@[simp] theorem onMeasure_tuner (f : Measurement → Measurement) : (State.onMeasure s f).tuner = s.tuner := rfl
@[simp] theorem onMeasure_bus (f : Measurement → Measurement) : (State.onMeasure s f).bus = s.bus := rfl
@[simp] theorem onMeasure_pins (f : Measurement → Measurement) : (State.onMeasure s f).pins = s.pins := rfl
@[simp] theorem onMeasure_now (f : Measurement → Measurement) : (State.onMeasure s f).now = s.now := rfl
@[simp] theorem onMeasure_free (f : Measurement → Measurement) : (State.onMeasure s f).free = s.free := rfl
@[simp] theorem onMeasure_pending (f : Measurement → Measurement) : (State.onMeasure s f).pending = s.pending := rfl
@[simp] theorem onMeasure_route (f : Measurement → Measurement) (r : RouteId) : (State.onMeasure s f).route r = s.route r := by cases r <;> rfl
@[simp] theorem onMeasure_channel (f : Measurement → Measurement) (j : Fin 12) : (State.onMeasure s f).channel j = s.channel j := rfl
@[simp] theorem onMeasure_group (f : Measurement → Measurement) (g0 : Fin 6) : (State.onMeasure s f).group g0 = s.group g0 := rfl
@[simp] theorem onMeasure_port (f : Measurement → Measurement) (p0 : Fin 10) : (State.onMeasure s f).port p0 = s.port p0 := rfl
@[simp] theorem onMeasure_source (f : Measurement → Measurement) (i0 : Fin 12) : (State.onMeasure s f).source i0 = s.source i0 := rfl

@[simp] theorem onTuner_link (f : Tuner → Tuner) : (s.onTuner f).link = s.link := rfl
@[simp] theorem onTuner_ports (f : Tuner → Tuner) : (s.onTuner f).ports = s.ports := rfl
@[simp] theorem onTuner_sources (f : Tuner → Tuner) : (s.onTuner f).sources = s.sources := rfl
@[simp] theorem onTuner_main (f : Tuner → Tuner) : (s.onTuner f).main = s.main := rfl
@[simp] theorem onTuner_zone (f : Tuner → Tuner) : (s.onTuner f).zone = s.zone := rfl
@[simp] theorem onTuner_render (f : Tuner → Tuner) : (s.onTuner f).render = s.render := rfl
@[simp] theorem onTuner_gain (f : Tuner → Tuner) : (s.onTuner f).gain = s.gain := rfl
@[simp] theorem onTuner_protect (f : Tuner → Tuner) : (s.onTuner f).protect = s.protect := rfl
@[simp] theorem onTuner_measure (f : Tuner → Tuner) : (s.onTuner f).measure = s.measure := rfl
@[simp] theorem onTuner_tuner (f : Tuner → Tuner) : (s.onTuner f).tuner = f s.tuner := rfl
@[simp] theorem onTuner_bus (f : Tuner → Tuner) : (s.onTuner f).bus = s.bus := rfl
@[simp] theorem onTuner_pins (f : Tuner → Tuner) : (s.onTuner f).pins = s.pins := rfl
@[simp] theorem onTuner_now (f : Tuner → Tuner) : (s.onTuner f).now = s.now := rfl
@[simp] theorem onTuner_free (f : Tuner → Tuner) : (s.onTuner f).free = s.free := rfl
@[simp] theorem onTuner_pending (f : Tuner → Tuner) : (s.onTuner f).pending = s.pending := rfl
@[simp] theorem onTuner_route (f : Tuner → Tuner) (r : RouteId) : (s.onTuner f).route r = s.route r := by cases r <;> rfl
@[simp] theorem onTuner_channel (f : Tuner → Tuner) (j : Fin 12) : (s.onTuner f).channel j = s.channel j := rfl
@[simp] theorem onTuner_group (f : Tuner → Tuner) (g0 : Fin 6) : (s.onTuner f).group g0 = s.group g0 := rfl
@[simp] theorem onTuner_port (f : Tuner → Tuner) (p0 : Fin 10) : (s.onTuner f).port p0 = s.port p0 := rfl
@[simp] theorem onTuner_source (f : Tuner → Tuner) (i0 : Fin 12) : (s.onTuner f).source i0 = s.source i0 := rfl

@[simp] theorem onBus_link (f : Bus → Bus) : (s.onBus f).link = s.link := rfl
@[simp] theorem onBus_ports (f : Bus → Bus) : (s.onBus f).ports = s.ports := rfl
@[simp] theorem onBus_sources (f : Bus → Bus) : (s.onBus f).sources = s.sources := rfl
@[simp] theorem onBus_main (f : Bus → Bus) : (s.onBus f).main = s.main := rfl
@[simp] theorem onBus_zone (f : Bus → Bus) : (s.onBus f).zone = s.zone := rfl
@[simp] theorem onBus_render (f : Bus → Bus) : (s.onBus f).render = s.render := rfl
@[simp] theorem onBus_gain (f : Bus → Bus) : (s.onBus f).gain = s.gain := rfl
@[simp] theorem onBus_protect (f : Bus → Bus) : (s.onBus f).protect = s.protect := rfl
@[simp] theorem onBus_measure (f : Bus → Bus) : (s.onBus f).measure = s.measure := rfl
@[simp] theorem onBus_tuner (f : Bus → Bus) : (s.onBus f).tuner = s.tuner := rfl
@[simp] theorem onBus_bus (f : Bus → Bus) : (s.onBus f).bus = f s.bus := rfl
@[simp] theorem onBus_pins (f : Bus → Bus) : (s.onBus f).pins = s.pins := rfl
@[simp] theorem onBus_now (f : Bus → Bus) : (s.onBus f).now = s.now := rfl
@[simp] theorem onBus_free (f : Bus → Bus) : (s.onBus f).free = s.free := rfl
@[simp] theorem onBus_pending (f : Bus → Bus) : (s.onBus f).pending = s.pending := rfl
@[simp] theorem onBus_route (f : Bus → Bus) (r : RouteId) : (s.onBus f).route r = s.route r := by cases r <;> rfl
@[simp] theorem onBus_channel (f : Bus → Bus) (j : Fin 12) : (s.onBus f).channel j = s.channel j := rfl
@[simp] theorem onBus_group (f : Bus → Bus) (g0 : Fin 6) : (s.onBus f).group g0 = s.group g0 := rfl
@[simp] theorem onBus_port (f : Bus → Bus) (p0 : Fin 10) : (s.onBus f).port p0 = s.port p0 := rfl
@[simp] theorem onBus_source (f : Bus → Bus) (i0 : Fin 12) : (s.onBus f).source i0 = s.source i0 := rfl

@[simp] theorem onPins_link (f : Pins → Pins) : (s.onPins f).link = s.link := rfl
@[simp] theorem onPins_ports (f : Pins → Pins) : (s.onPins f).ports = s.ports := rfl
@[simp] theorem onPins_sources (f : Pins → Pins) : (s.onPins f).sources = s.sources := rfl
@[simp] theorem onPins_main (f : Pins → Pins) : (s.onPins f).main = s.main := rfl
@[simp] theorem onPins_zone (f : Pins → Pins) : (s.onPins f).zone = s.zone := rfl
@[simp] theorem onPins_render (f : Pins → Pins) : (s.onPins f).render = s.render := rfl
@[simp] theorem onPins_gain (f : Pins → Pins) : (s.onPins f).gain = s.gain := rfl
@[simp] theorem onPins_protect (f : Pins → Pins) : (s.onPins f).protect = s.protect := rfl
@[simp] theorem onPins_measure (f : Pins → Pins) : (s.onPins f).measure = s.measure := rfl
@[simp] theorem onPins_tuner (f : Pins → Pins) : (s.onPins f).tuner = s.tuner := rfl
@[simp] theorem onPins_bus (f : Pins → Pins) : (s.onPins f).bus = s.bus := rfl
@[simp] theorem onPins_pins (f : Pins → Pins) : (s.onPins f).pins = f s.pins := rfl
@[simp] theorem onPins_now (f : Pins → Pins) : (s.onPins f).now = s.now := rfl
@[simp] theorem onPins_free (f : Pins → Pins) : (s.onPins f).free = s.free := rfl
@[simp] theorem onPins_pending (f : Pins → Pins) : (s.onPins f).pending = s.pending := rfl
@[simp] theorem onPins_route (f : Pins → Pins) (r : RouteId) : (s.onPins f).route r = s.route r := by cases r <;> rfl
@[simp] theorem onPins_channel (f : Pins → Pins) (j : Fin 12) : (s.onPins f).channel j = s.channel j := rfl
@[simp] theorem onPins_group (f : Pins → Pins) (g0 : Fin 6) : (s.onPins f).group g0 = s.group g0 := rfl
@[simp] theorem onPins_port (f : Pins → Pins) (p0 : Fin 10) : (s.onPins f).port p0 = s.port p0 := rfl
@[simp] theorem onPins_source (f : Pins → Pins) (i0 : Fin 12) : (s.onPins f).source i0 = s.source i0 := rfl

@[simp] theorem onPort_link (p : Fin 10) (f : Port → Port) : (s.onPort p f).link = s.link := rfl
@[simp] theorem onPort_ports (p : Fin 10) (f : Port → Port) : (s.onPort p f).ports = s.ports.modify p f := rfl
@[simp] theorem onPort_sources (p : Fin 10) (f : Port → Port) : (s.onPort p f).sources = s.sources := rfl
@[simp] theorem onPort_main (p : Fin 10) (f : Port → Port) : (s.onPort p f).main = s.main := rfl
@[simp] theorem onPort_zone (p : Fin 10) (f : Port → Port) : (s.onPort p f).zone = s.zone := rfl
@[simp] theorem onPort_render (p : Fin 10) (f : Port → Port) : (s.onPort p f).render = s.render := rfl
@[simp] theorem onPort_gain (p : Fin 10) (f : Port → Port) : (s.onPort p f).gain = s.gain := rfl
@[simp] theorem onPort_protect (p : Fin 10) (f : Port → Port) : (s.onPort p f).protect = s.protect := rfl
@[simp] theorem onPort_measure (p : Fin 10) (f : Port → Port) : (s.onPort p f).measure = s.measure := rfl
@[simp] theorem onPort_tuner (p : Fin 10) (f : Port → Port) : (s.onPort p f).tuner = s.tuner := rfl
@[simp] theorem onPort_bus (p : Fin 10) (f : Port → Port) : (s.onPort p f).bus = s.bus := rfl
@[simp] theorem onPort_pins (p : Fin 10) (f : Port → Port) : (s.onPort p f).pins = s.pins := rfl
@[simp] theorem onPort_now (p : Fin 10) (f : Port → Port) : (s.onPort p f).now = s.now := rfl
@[simp] theorem onPort_free (p : Fin 10) (f : Port → Port) : (s.onPort p f).free = s.free := rfl
@[simp] theorem onPort_pending (p : Fin 10) (f : Port → Port) : (s.onPort p f).pending = s.pending := rfl
@[simp] theorem onPort_route (p : Fin 10) (f : Port → Port) (r : RouteId) : (s.onPort p f).route r = s.route r := by cases r <;> rfl
@[simp] theorem onPort_channel (p : Fin 10) (f : Port → Port) (j : Fin 12) : (s.onPort p f).channel j = s.channel j := rfl
@[simp] theorem onPort_group (p : Fin 10) (f : Port → Port) (g0 : Fin 6) : (s.onPort p f).group g0 = s.group g0 := rfl
@[simp] theorem onPort_source (p : Fin 10) (f : Port → Port) (i0 : Fin 12) : (s.onPort p f).source i0 = s.source i0 := rfl

@[simp] theorem setSource_link (i : Fin 12) (x : Source) : (s.setSource i x).link = s.link := rfl
@[simp] theorem setSource_ports (i : Fin 12) (x : Source) : (s.setSource i x).ports = s.ports := rfl
@[simp] theorem setSource_sources (i : Fin 12) (x : Source) : (s.setSource i x).sources = s.sources.set i x := rfl
@[simp] theorem setSource_main (i : Fin 12) (x : Source) : (s.setSource i x).main = s.main := rfl
@[simp] theorem setSource_zone (i : Fin 12) (x : Source) : (s.setSource i x).zone = s.zone := rfl
@[simp] theorem setSource_render (i : Fin 12) (x : Source) : (s.setSource i x).render = s.render := rfl
@[simp] theorem setSource_gain (i : Fin 12) (x : Source) : (s.setSource i x).gain = s.gain := rfl
@[simp] theorem setSource_protect (i : Fin 12) (x : Source) : (s.setSource i x).protect = s.protect := rfl
@[simp] theorem setSource_measure (i : Fin 12) (x : Source) : (s.setSource i x).measure = s.measure := rfl
@[simp] theorem setSource_tuner (i : Fin 12) (x : Source) : (s.setSource i x).tuner = s.tuner := rfl
@[simp] theorem setSource_bus (i : Fin 12) (x : Source) : (s.setSource i x).bus = s.bus := rfl
@[simp] theorem setSource_pins (i : Fin 12) (x : Source) : (s.setSource i x).pins = s.pins := rfl
@[simp] theorem setSource_now (i : Fin 12) (x : Source) : (s.setSource i x).now = s.now := rfl
@[simp] theorem setSource_free (i : Fin 12) (x : Source) : (s.setSource i x).free = s.free := rfl
@[simp] theorem setSource_pending (i : Fin 12) (x : Source) : (s.setSource i x).pending = s.pending := rfl
@[simp] theorem setSource_route (i : Fin 12) (x : Source) (r : RouteId) : (s.setSource i x).route r = s.route r := by cases r <;> rfl
@[simp] theorem setSource_channel (i : Fin 12) (x : Source) (j : Fin 12) : (s.setSource i x).channel j = s.channel j := rfl
@[simp] theorem setSource_group (i : Fin 12) (x : Source) (g0 : Fin 6) : (s.setSource i x).group g0 = s.group g0 := rfl
@[simp] theorem setSource_port (i : Fin 12) (x : Source) (p0 : Fin 10) : (s.setSource i x).port p0 = s.port p0 := rfl

@[simp] theorem onRouteMain_link (f : Route → Route) : (s.onRoute .main f).link = s.link := rfl
@[simp] theorem onRouteMain_ports (f : Route → Route) : (s.onRoute .main f).ports = s.ports := rfl
@[simp] theorem onRouteMain_sources (f : Route → Route) : (s.onRoute .main f).sources = s.sources := rfl
@[simp] theorem onRouteMain_main (f : Route → Route) : (s.onRoute .main f).main = f s.main := rfl
@[simp] theorem onRouteMain_zone (f : Route → Route) : (s.onRoute .main f).zone = s.zone := rfl
@[simp] theorem onRouteMain_render (f : Route → Route) : (s.onRoute .main f).render = s.render := rfl
@[simp] theorem onRouteMain_gain (f : Route → Route) : (s.onRoute .main f).gain = s.gain := rfl
@[simp] theorem onRouteMain_protect (f : Route → Route) : (s.onRoute .main f).protect = s.protect := rfl
@[simp] theorem onRouteMain_measure (f : Route → Route) : (s.onRoute .main f).measure = s.measure := rfl
@[simp] theorem onRouteMain_tuner (f : Route → Route) : (s.onRoute .main f).tuner = s.tuner := rfl
@[simp] theorem onRouteMain_bus (f : Route → Route) : (s.onRoute .main f).bus = s.bus := rfl
@[simp] theorem onRouteMain_pins (f : Route → Route) : (s.onRoute .main f).pins = s.pins := rfl
@[simp] theorem onRouteMain_now (f : Route → Route) : (s.onRoute .main f).now = s.now := rfl
@[simp] theorem onRouteMain_free (f : Route → Route) : (s.onRoute .main f).free = s.free := rfl
@[simp] theorem onRouteMain_pending (f : Route → Route) : (s.onRoute .main f).pending = s.pending := rfl
@[simp] theorem onRouteMain_channel (f : Route → Route) (j : Fin 12) : (s.onRoute .main f).channel j = s.channel j := rfl
@[simp] theorem onRouteMain_group (f : Route → Route) (g0 : Fin 6) : (s.onRoute .main f).group g0 = s.group g0 := rfl
@[simp] theorem onRouteMain_port (f : Route → Route) (p0 : Fin 10) : (s.onRoute .main f).port p0 = s.port p0 := rfl
@[simp] theorem onRouteMain_source (f : Route → Route) (i0 : Fin 12) : (s.onRoute .main f).source i0 = s.source i0 := rfl

@[simp] theorem onRouteZone_link (f : Route → Route) : (s.onRoute .zone f).link = s.link := rfl
@[simp] theorem onRouteZone_ports (f : Route → Route) : (s.onRoute .zone f).ports = s.ports := rfl
@[simp] theorem onRouteZone_sources (f : Route → Route) : (s.onRoute .zone f).sources = s.sources := rfl
@[simp] theorem onRouteZone_main (f : Route → Route) : (s.onRoute .zone f).main = s.main := rfl
@[simp] theorem onRouteZone_zone (f : Route → Route) : (s.onRoute .zone f).zone = f s.zone := rfl
@[simp] theorem onRouteZone_render (f : Route → Route) : (s.onRoute .zone f).render = s.render := rfl
@[simp] theorem onRouteZone_gain (f : Route → Route) : (s.onRoute .zone f).gain = s.gain := rfl
@[simp] theorem onRouteZone_protect (f : Route → Route) : (s.onRoute .zone f).protect = s.protect := rfl
@[simp] theorem onRouteZone_measure (f : Route → Route) : (s.onRoute .zone f).measure = s.measure := rfl
@[simp] theorem onRouteZone_tuner (f : Route → Route) : (s.onRoute .zone f).tuner = s.tuner := rfl
@[simp] theorem onRouteZone_bus (f : Route → Route) : (s.onRoute .zone f).bus = s.bus := rfl
@[simp] theorem onRouteZone_pins (f : Route → Route) : (s.onRoute .zone f).pins = s.pins := rfl
@[simp] theorem onRouteZone_now (f : Route → Route) : (s.onRoute .zone f).now = s.now := rfl
@[simp] theorem onRouteZone_free (f : Route → Route) : (s.onRoute .zone f).free = s.free := rfl
@[simp] theorem onRouteZone_pending (f : Route → Route) : (s.onRoute .zone f).pending = s.pending := rfl
@[simp] theorem onRouteZone_channel (f : Route → Route) (j : Fin 12) : (s.onRoute .zone f).channel j = s.channel j := rfl
@[simp] theorem onRouteZone_group (f : Route → Route) (g0 : Fin 6) : (s.onRoute .zone f).group g0 = s.group g0 := rfl
@[simp] theorem onRouteZone_port (f : Route → Route) (p0 : Fin 10) : (s.onRoute .zone f).port p0 = s.port p0 := rfl
@[simp] theorem onRouteZone_source (f : Route → Route) (i0 : Fin 12) : (s.onRoute .zone f).source i0 = s.source i0 := rfl

@[simp] theorem onChannel_link (i : Fin 12) (f : Channel → Channel) : (s.onChannel i f).link = s.link := rfl
@[simp] theorem onChannel_ports (i : Fin 12) (f : Channel → Channel) : (s.onChannel i f).ports = s.ports := rfl
@[simp] theorem onChannel_sources (i : Fin 12) (f : Channel → Channel) : (s.onChannel i f).sources = s.sources := rfl
@[simp] theorem onChannel_main (i : Fin 12) (f : Channel → Channel) : (s.onChannel i f).main = s.main := rfl
@[simp] theorem onChannel_zone (i : Fin 12) (f : Channel → Channel) : (s.onChannel i f).zone = s.zone := rfl
@[simp] theorem onChannel_render (i : Fin 12) (f : Channel → Channel) : (s.onChannel i f).render = s.render := rfl
@[simp] theorem onChannel_gain (i : Fin 12) (f : Channel → Channel) : (s.onChannel i f).gain = { s.gain with channels := s.gain.channels.modify i f } := rfl
@[simp] theorem onChannel_protect (i : Fin 12) (f : Channel → Channel) : (s.onChannel i f).protect = s.protect := rfl
@[simp] theorem onChannel_measure (i : Fin 12) (f : Channel → Channel) : (s.onChannel i f).measure = s.measure := rfl
@[simp] theorem onChannel_tuner (i : Fin 12) (f : Channel → Channel) : (s.onChannel i f).tuner = s.tuner := rfl
@[simp] theorem onChannel_bus (i : Fin 12) (f : Channel → Channel) : (s.onChannel i f).bus = s.bus := rfl
@[simp] theorem onChannel_pins (i : Fin 12) (f : Channel → Channel) : (s.onChannel i f).pins = s.pins := rfl
@[simp] theorem onChannel_now (i : Fin 12) (f : Channel → Channel) : (s.onChannel i f).now = s.now := rfl
@[simp] theorem onChannel_free (i : Fin 12) (f : Channel → Channel) : (s.onChannel i f).free = s.free := rfl
@[simp] theorem onChannel_pending (i : Fin 12) (f : Channel → Channel) : (s.onChannel i f).pending = s.pending := rfl
@[simp] theorem onChannel_route (i : Fin 12) (f : Channel → Channel) (r : RouteId) : (s.onChannel i f).route r = s.route r := by cases r <;> rfl
@[simp] theorem onChannel_group (i : Fin 12) (f : Channel → Channel) (g0 : Fin 6) : (s.onChannel i f).group g0 = s.group g0 := rfl
@[simp] theorem onChannel_port (i : Fin 12) (f : Channel → Channel) (p0 : Fin 10) : (s.onChannel i f).port p0 = s.port p0 := rfl
@[simp] theorem onChannel_source (i : Fin 12) (f : Channel → Channel) (i0 : Fin 12) : (s.onChannel i f).source i0 = s.source i0 := rfl

@[simp] theorem onGroup_link (g : Fin 6) (f : Group → Group) : (s.onGroup g f).link = s.link := rfl
@[simp] theorem onGroup_ports (g : Fin 6) (f : Group → Group) : (s.onGroup g f).ports = s.ports := rfl
@[simp] theorem onGroup_sources (g : Fin 6) (f : Group → Group) : (s.onGroup g f).sources = s.sources := rfl
@[simp] theorem onGroup_main (g : Fin 6) (f : Group → Group) : (s.onGroup g f).main = s.main := rfl
@[simp] theorem onGroup_zone (g : Fin 6) (f : Group → Group) : (s.onGroup g f).zone = s.zone := rfl
@[simp] theorem onGroup_render (g : Fin 6) (f : Group → Group) : (s.onGroup g f).render = s.render := rfl
@[simp] theorem onGroup_gain (g : Fin 6) (f : Group → Group) : (s.onGroup g f).gain = s.gain := rfl
@[simp] theorem onGroup_protect (g : Fin 6) (f : Group → Group) : (s.onGroup g f).protect = { s.protect with groups := s.protect.groups.modify g f } := rfl
@[simp] theorem onGroup_measure (g : Fin 6) (f : Group → Group) : (s.onGroup g f).measure = s.measure := rfl
@[simp] theorem onGroup_tuner (g : Fin 6) (f : Group → Group) : (s.onGroup g f).tuner = s.tuner := rfl
@[simp] theorem onGroup_bus (g : Fin 6) (f : Group → Group) : (s.onGroup g f).bus = s.bus := rfl
@[simp] theorem onGroup_pins (g : Fin 6) (f : Group → Group) : (s.onGroup g f).pins = s.pins := rfl
@[simp] theorem onGroup_now (g : Fin 6) (f : Group → Group) : (s.onGroup g f).now = s.now := rfl
@[simp] theorem onGroup_free (g : Fin 6) (f : Group → Group) : (s.onGroup g f).free = s.free := rfl
@[simp] theorem onGroup_pending (g : Fin 6) (f : Group → Group) : (s.onGroup g f).pending = s.pending := rfl
@[simp] theorem onGroup_route (g : Fin 6) (f : Group → Group) (r : RouteId) : (s.onGroup g f).route r = s.route r := by cases r <;> rfl
@[simp] theorem onGroup_channel (g : Fin 6) (f : Group → Group) (j : Fin 12) : (s.onGroup g f).channel j = s.channel j := rfl
@[simp] theorem onGroup_port (g : Fin 6) (f : Group → Group) (p0 : Fin 10) : (s.onGroup g f).port p0 = s.port p0 := rfl
@[simp] theorem onGroup_source (g : Fin 6) (f : Group → Group) (i0 : Fin 12) : (s.onGroup g f).source i0 = s.source i0 := rfl

@[simp] theorem onRun_link (f : Run → Run) : (s.onRun f).link = s.link := rfl
@[simp] theorem onRun_ports (f : Run → Run) : (s.onRun f).ports = s.ports := rfl
@[simp] theorem onRun_sources (f : Run → Run) : (s.onRun f).sources = s.sources := rfl
@[simp] theorem onRun_main (f : Run → Run) : (s.onRun f).main = s.main := rfl
@[simp] theorem onRun_zone (f : Run → Run) : (s.onRun f).zone = s.zone := rfl
@[simp] theorem onRun_render (f : Run → Run) : (s.onRun f).render = s.render := rfl
@[simp] theorem onRun_gain (f : Run → Run) : (s.onRun f).gain = s.gain := rfl
@[simp] theorem onRun_protect (f : Run → Run) : (s.onRun f).protect = s.protect := rfl
@[simp] theorem onRun_measure (f : Run → Run) : (s.onRun f).measure = { s.measure with run := s.measure.run.map f } := rfl
@[simp] theorem onRun_tuner (f : Run → Run) : (s.onRun f).tuner = s.tuner := rfl
@[simp] theorem onRun_bus (f : Run → Run) : (s.onRun f).bus = s.bus := rfl
@[simp] theorem onRun_pins (f : Run → Run) : (s.onRun f).pins = s.pins := rfl
@[simp] theorem onRun_now (f : Run → Run) : (s.onRun f).now = s.now := rfl
@[simp] theorem onRun_free (f : Run → Run) : (s.onRun f).free = s.free := rfl
@[simp] theorem onRun_pending (f : Run → Run) : (s.onRun f).pending = s.pending := rfl
@[simp] theorem onRun_route (f : Run → Run) (r : RouteId) : (s.onRun f).route r = s.route r := by cases r <;> rfl
@[simp] theorem onRun_channel (f : Run → Run) (j : Fin 12) : (s.onRun f).channel j = s.channel j := rfl
@[simp] theorem onRun_group (f : Run → Run) (g0 : Fin 6) : (s.onRun f).group g0 = s.group g0 := rfl
@[simp] theorem onRun_port (f : Run → Run) (p0 : Fin 10) : (s.onRun f).port p0 = s.port p0 := rfl
@[simp] theorem onRun_source (f : Run → Run) (i0 : Fin 12) : (s.onRun f).source i0 = s.source i0 := rfl

@[simp] theorem passTo_link (t : Nat) : (s.passTo t).link = s.link := rfl
@[simp] theorem passTo_ports (t : Nat) : (s.passTo t).ports = s.ports := rfl
@[simp] theorem passTo_sources (t : Nat) : (s.passTo t).sources = s.sources := rfl
@[simp] theorem passTo_main (t : Nat) : (s.passTo t).main = s.main := rfl
@[simp] theorem passTo_zone (t : Nat) : (s.passTo t).zone = s.zone := rfl
@[simp] theorem passTo_render (t : Nat) : (s.passTo t).render = s.render := rfl
@[simp] theorem passTo_gain (t : Nat) : (s.passTo t).gain = s.gain := rfl
@[simp] theorem passTo_protect (t : Nat) : (s.passTo t).protect = s.protect := rfl
@[simp] theorem passTo_measure (t : Nat) : (s.passTo t).measure = s.measure := rfl
@[simp] theorem passTo_tuner (t : Nat) : (s.passTo t).tuner = s.tuner := rfl
@[simp] theorem passTo_bus (t : Nat) : (s.passTo t).bus = s.bus := rfl
@[simp] theorem passTo_pins (t : Nat) : (s.passTo t).pins = s.pins := rfl
@[simp] theorem passTo_now (t : Nat) : (s.passTo t).now = (if s.now < t then t else s.now) := rfl
@[simp] theorem passTo_free (t : Nat) : (s.passTo t).free = s.free := rfl
@[simp] theorem passTo_pending (t : Nat) : (s.passTo t).pending = s.pending := rfl
@[simp] theorem passTo_route (t : Nat) (r : RouteId) : (s.passTo t).route r = s.route r := by cases r <;> rfl
@[simp] theorem passTo_channel (t : Nat) (j : Fin 12) : (s.passTo t).channel j = s.channel j := rfl
@[simp] theorem passTo_group (t : Nat) (g0 : Fin 6) : (s.passTo t).group g0 = s.group g0 := rfl
@[simp] theorem passTo_port (t : Nat) (p0 : Fin 10) : (s.passTo t).port p0 = s.port p0 := rfl
@[simp] theorem passTo_source (t : Nat) (i0 : Fin 12) : (s.passTo t).source i0 = s.source i0 := rfl

@[simp] theorem drawFree_link : (s.drawFree).link = s.link := rfl
@[simp] theorem drawFree_ports : (s.drawFree).ports = s.ports := rfl
@[simp] theorem drawFree_sources : (s.drawFree).sources = s.sources := rfl
@[simp] theorem drawFree_main : (s.drawFree).main = s.main := rfl
@[simp] theorem drawFree_zone : (s.drawFree).zone = s.zone := rfl
@[simp] theorem drawFree_render : (s.drawFree).render = s.render := rfl
@[simp] theorem drawFree_gain : (s.drawFree).gain = s.gain := rfl
@[simp] theorem drawFree_protect : (s.drawFree).protect = s.protect := rfl
@[simp] theorem drawFree_measure : (s.drawFree).measure = s.measure := rfl
@[simp] theorem drawFree_tuner : (s.drawFree).tuner = s.tuner := rfl
@[simp] theorem drawFree_bus : (s.drawFree).bus = s.bus := rfl
@[simp] theorem drawFree_pins : (s.drawFree).pins = s.pins := rfl
@[simp] theorem drawFree_now : (s.drawFree).now = s.now := rfl
@[simp] theorem drawFree_free : (s.drawFree).free = s.free + 1 := rfl
@[simp] theorem drawFree_pending : (s.drawFree).pending = s.pending := rfl
@[simp] theorem drawFree_route (r : RouteId) : (s.drawFree).route r = s.route r := by cases r <;> rfl
@[simp] theorem drawFree_channel (j : Fin 12) : (s.drawFree).channel j = s.channel j := rfl
@[simp] theorem drawFree_group (g0 : Fin 6) : (s.drawFree).group g0 = s.group g0 := rfl
@[simp] theorem drawFree_port (p0 : Fin 10) : (s.drawFree).port p0 = s.port p0 := rfl
@[simp] theorem drawFree_source (i0 : Fin 12) : (s.drawFree).source i0 = s.source i0 := rfl

@[simp] theorem popped_link (rest : List Instr) : (s.popped rest).link = s.link := rfl
@[simp] theorem popped_ports (rest : List Instr) : (s.popped rest).ports = s.ports := rfl
@[simp] theorem popped_sources (rest : List Instr) : (s.popped rest).sources = s.sources := rfl
@[simp] theorem popped_main (rest : List Instr) : (s.popped rest).main = s.main := rfl
@[simp] theorem popped_zone (rest : List Instr) : (s.popped rest).zone = s.zone := rfl
@[simp] theorem popped_render (rest : List Instr) : (s.popped rest).render = s.render := rfl
@[simp] theorem popped_gain (rest : List Instr) : (s.popped rest).gain = s.gain := rfl
@[simp] theorem popped_protect (rest : List Instr) : (s.popped rest).protect = s.protect := rfl
@[simp] theorem popped_measure (rest : List Instr) : (s.popped rest).measure = s.measure := rfl
@[simp] theorem popped_tuner (rest : List Instr) : (s.popped rest).tuner = s.tuner := rfl
@[simp] theorem popped_bus (rest : List Instr) : (s.popped rest).bus = s.bus := rfl
@[simp] theorem popped_pins (rest : List Instr) : (s.popped rest).pins = s.pins := rfl
@[simp] theorem popped_now (rest : List Instr) : (s.popped rest).now = s.now := rfl
@[simp] theorem popped_free (rest : List Instr) : (s.popped rest).free = s.free := rfl
@[simp] theorem popped_pending (rest : List Instr) : (s.popped rest).pending = rest := rfl
@[simp] theorem popped_route (rest : List Instr) (r : RouteId) : (s.popped rest).route r = s.route r := by cases r <;> rfl
@[simp] theorem popped_channel (rest : List Instr) (j : Fin 12) : (s.popped rest).channel j = s.channel j := rfl
@[simp] theorem popped_group (rest : List Instr) (g0 : Fin 6) : (s.popped rest).group g0 = s.group g0 := rfl
@[simp] theorem popped_port (rest : List Instr) (p0 : Fin 10) : (s.popped rest).port p0 = s.port p0 := rfl
@[simp] theorem popped_source (rest : List Instr) (i0 : Fin 12) : (s.popped rest).source i0 = s.source i0 := rfl

@[simp] theorem enqueue_link (x : Frame) : (s.enqueue x).link = { s.link with outbound := s.link.outbound ++ [x] } := rfl
@[simp] theorem enqueue_ports (x : Frame) : (s.enqueue x).ports = s.ports := rfl
@[simp] theorem enqueue_sources (x : Frame) : (s.enqueue x).sources = s.sources := rfl
@[simp] theorem enqueue_main (x : Frame) : (s.enqueue x).main = s.main := rfl
@[simp] theorem enqueue_zone (x : Frame) : (s.enqueue x).zone = s.zone := rfl
@[simp] theorem enqueue_render (x : Frame) : (s.enqueue x).render = s.render := rfl
@[simp] theorem enqueue_gain (x : Frame) : (s.enqueue x).gain = s.gain := rfl
@[simp] theorem enqueue_protect (x : Frame) : (s.enqueue x).protect = s.protect := rfl
@[simp] theorem enqueue_measure (x : Frame) : (s.enqueue x).measure = s.measure := rfl
@[simp] theorem enqueue_tuner (x : Frame) : (s.enqueue x).tuner = s.tuner := rfl
@[simp] theorem enqueue_bus (x : Frame) : (s.enqueue x).bus = s.bus := rfl
@[simp] theorem enqueue_pins (x : Frame) : (s.enqueue x).pins = s.pins := rfl
@[simp] theorem enqueue_now (x : Frame) : (s.enqueue x).now = s.now := rfl
@[simp] theorem enqueue_free (x : Frame) : (s.enqueue x).free = s.free := rfl
@[simp] theorem enqueue_pending (x : Frame) : (s.enqueue x).pending = s.pending := rfl
@[simp] theorem enqueue_route (x : Frame) (r : RouteId) : (s.enqueue x).route r = s.route r := by cases r <;> rfl
@[simp] theorem enqueue_channel (x : Frame) (j : Fin 12) : (s.enqueue x).channel j = s.channel j := rfl
@[simp] theorem enqueue_group (x : Frame) (g0 : Fin 6) : (s.enqueue x).group g0 = s.group g0 := rfl
@[simp] theorem enqueue_port (x : Frame) (p0 : Fin 10) : (s.enqueue x).port p0 = s.port p0 := rfl
@[simp] theorem enqueue_source (x : Frame) (i0 : Fin 12) : (s.enqueue x).source i0 = s.source i0 := rfl

end Sys2Proof.Machine
end

