-- ==== Sys2Proof/Laws/Link.lean ====
section
/-! SUPPORT. What the shared operations of the link unit can do: a notice, a reply, and the whole of a request that is
answered at its arrival. -/

namespace Sys2Proof.Machine

/-! ## Notices and frames -/

/-- Everything an event notice can change is in the link record (R183). -/
theorem emit_eq (c : NoticeClass) (b : List Byte) (s : State) : emit c b s = s.onLink fun _ => (emit c b s).link := by
  unfold emit State.enqueue; split
  · split <;> rfl
  · rfl

theorem enqueue_eq (s : State) (f : Frame) : s.enqueue f = s.onLink fun l => { l with outbound := l.outbound ++ [f] } := rfl

@[simp] theorem emit_ports (c : NoticeClass) (b : List Byte) (s : State) : (emit c b s).ports = s.ports := by rw [emit_eq]; rfl
@[simp] theorem emit_sources (c : NoticeClass) (b : List Byte) (s : State) : (emit c b s).sources = s.sources := by rw [emit_eq]; rfl
@[simp] theorem emit_main (c : NoticeClass) (b : List Byte) (s : State) : (emit c b s).main = s.main := by rw [emit_eq]; rfl
@[simp] theorem emit_zone (c : NoticeClass) (b : List Byte) (s : State) : (emit c b s).zone = s.zone := by rw [emit_eq]; rfl
@[simp] theorem emit_route (c : NoticeClass) (b : List Byte) (s : State) (r : RouteId) : (emit c b s).route r = s.route r := by
  rw [emit_eq]; simp
@[simp] theorem emit_render (c : NoticeClass) (b : List Byte) (s : State) : (emit c b s).render = s.render := by rw [emit_eq]; rfl
@[simp] theorem emit_gain (c : NoticeClass) (b : List Byte) (s : State) : (emit c b s).gain = s.gain := by rw [emit_eq]; rfl
@[simp] theorem emit_protect (c : NoticeClass) (b : List Byte) (s : State) : (emit c b s).protect = s.protect := by
  rw [emit_eq]; rfl
@[simp] theorem emit_measure (c : NoticeClass) (b : List Byte) (s : State) : (emit c b s).measure = s.measure := by
  rw [emit_eq]; rfl
@[simp] theorem emit_tuner (c : NoticeClass) (b : List Byte) (s : State) : (emit c b s).tuner = s.tuner := by rw [emit_eq]; rfl
@[simp] theorem emit_bus (c : NoticeClass) (b : List Byte) (s : State) : (emit c b s).bus = s.bus := by rw [emit_eq]; rfl
@[simp] theorem emit_pins (c : NoticeClass) (b : List Byte) (s : State) : (emit c b s).pins = s.pins := by rw [emit_eq]; rfl
@[simp] theorem emit_now (c : NoticeClass) (b : List Byte) (s : State) : (emit c b s).now = s.now := by rw [emit_eq]; rfl
@[simp] theorem emit_free (c : NoticeClass) (b : List Byte) (s : State) : (emit c b s).free = s.free := by rw [emit_eq]; rfl
@[simp] theorem emit_pending (c : NoticeClass) (b : List Byte) (s : State) : (emit c b s).pending = s.pending := by
  rw [emit_eq]; rfl
@[simp] theorem emit_channel (c : NoticeClass) (b : List Byte) (s : State) (i : Fin 12) :
    (emit c b s).channel i = s.channel i := by rw [emit_eq]; rfl
@[simp] theorem emit_group (c : NoticeClass) (b : List Byte) (s : State) (g : Fin 6) : (emit c b s).group g = s.group g := by
  rw [emit_eq]; rfl
@[simp] theorem emit_port (c : NoticeClass) (b : List Byte) (s : State) (p : Fin 10) : (emit c b s).port p = s.port p := by
  rw [emit_eq]; rfl
@[simp] theorem emit_source (c : NoticeClass) (b : List Byte) (s : State) (i : Fin 12) :
    (emit c b s).source i = s.source i := by rw [emit_eq]; rfl

/-- What an event notice leaves of the link record: all but the queue, the lost count and the dropped counter. -/
theorem emit_link (c : NoticeClass) (b : List Byte) (s : State) :
    (emit c b s).link = { s.link with
      outbound := (emit c b s).link.outbound, lost := (emit c b s).link.lost
      counters := { s.link.counters with dropped := (emit c b s).link.counters.dropped } } := by
  unfold emit State.enqueue; split
  · split <;> rfl
  · rfl

@[simp] theorem emit_requests (c : NoticeClass) (b : List Byte) (s : State) :
    (emit c b s).link.requests = s.link.requests := by rw [emit_link]
@[simp] theorem emit_opState (c : NoticeClass) (b : List Byte) (s : State) : (emit c b s).link.opState = s.link.opState := by
  rw [emit_link]
@[simp] theorem emit_restarting (c : NoticeClass) (b : List Byte) (s : State) :
    (emit c b s).link.restarting = s.link.restarting := by rw [emit_link]
@[simp] theorem emit_assembler (c : NoticeClass) (b : List Byte) (s : State) :
    (emit c b s).link.assembler = s.link.assembler := by rw [emit_link]
@[simp] theorem emit_gapDeadline (c : NoticeClass) (b : List Byte) (s : State) :
    (emit c b s).link.gapDeadline = s.link.gapDeadline := by rw [emit_link]
@[simp] theorem emit_wakeTag (c : NoticeClass) (b : List Byte) (s : State) : (emit c b s).link.wakeTag = s.link.wakeTag := by
  rw [emit_link]
@[simp] theorem emit_standbyTag (c : NoticeClass) (b : List Byte) (s : State) :
    (emit c b s).link.standbyTag = s.link.standbyTag := by rw [emit_link]
@[simp] theorem emit_quietDeadline (c : NoticeClass) (b : List Byte) (s : State) :
    (emit c b s).link.quietDeadline = s.link.quietDeadline := by rw [emit_link]
@[simp] theorem emit_mask (c : NoticeClass) (b : List Byte) (s : State) : (emit c b s).link.mask = s.link.mask := by
  rw [emit_link]

/-! ## Judgements -/

theorem hushCheck_of_nothingDue {s : State} (h : s.nothingDue) : hushCheck s = s := by
  unfold hushCheck; split
  · next hh => rw [h.1 hh.1] at hh; cases hh.2
  · rfl

theorem settle_of_nothingDue {s : State} (h : s.nothingDue) : settle s = s := by
  have hp : powerCheck s = s := by
    unfold powerCheck; split
    · next hh => rw [h.2.1 hh.1] at hh; cases hh.2
    · rfl
  have hq : silentCheck s = s := by
    unfold silentCheck; split
    · next hh => rw [h.2.2 hh.1] at hh; cases hh.2
    · rfl
  rw [settle, hushCheck_of_nothingDue h, hp, hq]

/-- A notice makes no judgement due. -/
theorem nothingDue_emit {c : NoticeClass} {b : List Byte} {s : State} (h : s.nothingDue) : (emit c b s).nothingDue := by
  have e1 : hushHeld (emit c b s) = hushHeld s := by unfold hushHeld tunerBound; simp
  have e2 : startListDone (emit c b s) = startListDone s := by unfold startListDone; simp
  have e3 : routesSilent (emit c b s) = routesSilent s := by unfold routesSilent; simp
  simpa only [State.nothingDue, e1, e2, e3, emit_tuner, emit_opState] using h

/-- The expiry of a running timer, when nothing is due after it. -/
theorem expire_some {t : Nat} {f : State → State} {s : State} (h : (f (s.passTo t)).nothingDue) :
    expire (some t) f s = f (s.passTo t) := settle_of_nothingDue h

/-! ## Requests that are answered at their arrival -/

/-- A reply to a request whose handling queued nothing is the newest frame. -/
theorem insertReply_end {s t : State} (f : Frame) (h : t.link.outbound = s.link.outbound) :
    insertReply s.link.outbound.length f t = t.enqueue f := by
  simp [insertReply, State.enqueue, State.onLink, ← h]

theorem placesUsed_append (sp : Space) (a b : List Frame) : placesUsed sp (a ++ b) = placesUsed sp a + placesUsed sp b := by
  simp [placesUsed]

/-- A reply goes before a notice that the handling of its request created. -/
theorem insertReply_emit {n : Nat} (f : Frame) (c : NoticeClass) (b : List Byte) (s : State) (hn : n ≤ s.link.outbound.length)
    (hf : f.space = .reply) : insertReply n f (emit c b s) = emit c b (insertReply n f s) := by
  have hp : placesUsed .event (s.link.outbound.take n ++ f :: s.link.outbound.drop n) = placesUsed .event s.link.outbound := by
    conv => rhs; rw [← List.take_append_drop n s.link.outbound]
    rw [placesUsed_append, placesUsed_append]
    simp [placesUsed, hf]
  unfold emit insertReply State.enqueue
  simp only [onLink_link, hp]
  split
  · split
    · simp [State.onLink, List.take_append, List.drop_append, Nat.sub_eq_zero_of_le hn]
    · rfl
  · rfl

/-- The dispatch of a request that may be dispatched at its arrival. -/
theorem joinRequests_serves {s : State} {r : Request} (h : s.serves r.tag)
    (hl : isLong r.kind = true → completionPlaces s < 4) : joinRequests r s = takeRequest r s.taken := by
  obtain ⟨-, hq, hr, hp, -⟩ := h
  have hc : canDispatch r (s.onLink fun l => { l with requests := [r] }) = true := by
    have : completionPlaces (s.onLink fun l => { l with requests := [r] }) = completionPlaces s := rfl
    unfold canDispatch; rw [this]
    cases hk : isLong r.kind
    · simp [State.onLink, hr, hp]
    · simp [State.onLink, hr, hp, hl hk]
  have h1 : joinRequests r s = dispatchAll (s.onLink fun l => { l with requests := [r] }) := by
    simp [joinRequests, hq, State.onLink]
  have h2 : (s.onLink fun l => { l with requests := [r] }).onLink
      (fun l => { l with requests := [], counters := { l.counters with taken := count16 l.counters.taken } }) = s.taken := by
    simp [State.taken, State.onLink, hq]
  rw [h1, dispatchAll]
  change dispatch 1 _ = _
  unfold dispatch
  simp only [onLink_link]
  rw [if_pos hc, ← h2]
  rfl

/-- A request of a kind of the catalogue that is answered at its arrival. -/
theorem requestArrives_serves {s : State} {kind tag : Byte} {body : List Byte} {row : CatalogueRow} (h : s.serves tag)
    (hk : rowOf kind = some row) (hb : body.length = row.length body) (hm : body.length ≤ 240)
    (hl : row.long = true → completionPlaces s < 4) :
    requestArrives ⟨kind, tag, body⟩ s = serveRequest row.handler ⟨kind, tag, body⟩ s.taken := by
  have hl' : isLong kind = true → completionPlaces s < 4 := by simpa [isLong, hk] using hl
  rw [requestArrives, if_neg (by simpa using hm), if_neg h.1, joinRequests_serves h hl']
  simp only [takeRequest, hk, if_pos hb]

/-- The reply of a request after which no judgement is due and that queued nothing. -/
theorem serveRequest_quiet {s : State} {r : Request} {hd : Request → State → Answer}
    (hn : (hd r s.taken).1.nothingDue) (ho : (hd r s.taken).1.link.outbound = s.link.outbound) :
    serveRequest hd r s.taken
      = (hd r s.taken).1.enqueue ⟨.reply, r.kind + 0x80, r.tag,
          replyBody (hd r s.taken).2.1 ((hd r s.taken).2.2 (hd r s.taken).1)⟩ := by
  have hi := insertReply_end (s := s.taken) (t := (hd r s.taken).1)
    ⟨.reply, r.kind + 0x80, r.tag, replyBody (hd r s.taken).2.1 ((hd r s.taken).2.2 (hd r s.taken).1)⟩ ho
  rw [serveRequest, hushCheck_of_nothingDue hn, hi]
  exact settle_of_nothingDue hn

end Sys2Proof.Machine
end

