-- ==== Sys2Proof/Laws/Catalogue.lean ====
section
/-! SUPPORT. One lemma for each request of the catalogue (R195): a request that may be dispatched at its arrival, with a body
of the right length, is answered by its handler. -/

namespace Sys2Proof.Machine

variable {s : State} {tag : Byte} {body : List Byte}

theorem served_ident (h : s.serves tag) (hb : body.length = 0) :
    requestArrives ⟨0x01, tag, body⟩ s = serveRequest onIdent ⟨0x01, tag, body⟩ s.taken :=
  requestArrives_serves (row := short 0x01 0 onIdent) h rfl hb (by omega) (fun e => nomatch e)

theorem served_partRead (h : s.serves tag) (hb : body.length = 0) :
    requestArrives ⟨0x02, tag, body⟩ s = serveRequest onPartRead ⟨0x02, tag, body⟩ s.taken :=
  requestArrives_serves (row := short 0x02 0 onPartRead) h rfl hb (by omega) (fun e => nomatch e)

theorem served_wake (h : s.servesLong tag) (hb : body.length = 0) :
    requestArrives ⟨0x03, tag, body⟩ s = serveRequest onWake ⟨0x03, tag, body⟩ s.taken :=
  requestArrives_serves (row := long 0x03 0 onWake) h.1 rfl hb (by omega) (fun _ => h.2)

theorem served_standby (h : s.servesLong tag) (hb : body.length = 0) :
    requestArrives ⟨0x04, tag, body⟩ s = serveRequest onStandby ⟨0x04, tag, body⟩ s.taken :=
  requestArrives_serves (row := long 0x04 0 onStandby) h.1 rfl hb (by omega) (fun _ => h.2)

theorem served_restart (h : s.serves tag) (hb : body.length = 0) :
    requestArrives ⟨0x05, tag, body⟩ s = serveRequest onRestart ⟨0x05, tag, body⟩ s.taken :=
  requestArrives_serves (row := short 0x05 0 onRestart) h rfl hb (by omega) (fun e => nomatch e)

theorem served_noticeMask (h : s.serves tag) (hb : body.length = 1) :
    requestArrives ⟨0x06, tag, body⟩ s = serveRequest onNoticeMask ⟨0x06, tag, body⟩ s.taken :=
  requestArrives_serves (row := short 0x06 1 onNoticeMask) h rfl hb (by omega) (fun e => nomatch e)

theorem served_linkStats (h : s.serves tag) (hb : body.length = 1) :
    requestArrives ⟨0x07, tag, body⟩ s = serveRequest onLinkStats ⟨0x07, tag, body⟩ s.taken :=
  requestArrives_serves (row := short 0x07 1 onLinkStats) h rfl hb (by omega) (fun e => nomatch e)

theorem served_portSet (h : s.serves tag) (hb : body.length = 2) :
    requestArrives ⟨0x10, tag, body⟩ s = serveRequest onPortSet ⟨0x10, tag, body⟩ s.taken :=
  requestArrives_serves (row := short 0x10 2 onPortSet) h rfl hb (by omega) (fun e => nomatch e)

theorem served_portRead (h : s.serves tag) (hb : body.length = 2) :
    requestArrives ⟨0x11, tag, body⟩ s = serveRequest onPortRead ⟨0x11, tag, body⟩ s.taken :=
  requestArrives_serves (row := short 0x11 2 onPortRead) h rfl hb (by omega) (fun e => nomatch e)

theorem served_adcTrim (h : s.serves tag) (hb : body.length = 3) :
    requestArrives ⟨0x12, tag, body⟩ s = serveRequest onAdcTrim ⟨0x12, tag, body⟩ s.taken :=
  requestArrives_serves (row := short 0x12 3 onAdcTrim) h rfl hb (by omega) (fun e => nomatch e)

theorem served_sourceSet (h : s.serves tag) (hb : body.length = 20) :
    requestArrives ⟨0x18, tag, body⟩ s = serveRequest onSourceSet ⟨0x18, tag, body⟩ s.taken :=
  requestArrives_serves (row := short 0x18 20 onSourceSet) h rfl hb (by omega) (fun e => nomatch e)

theorem served_sourceRead (h : s.serves tag) (hb : body.length = 1) :
    requestArrives ⟨0x19, tag, body⟩ s = serveRequest onSourceRead ⟨0x19, tag, body⟩ s.taken :=
  requestArrives_serves (row := short 0x19 1 onSourceRead) h rfl hb (by omega) (fun e => nomatch e)

theorem served_select (h : s.serves tag) (hb : body.length = 2) :
    requestArrives ⟨0x1A, tag, body⟩ s = serveRequest onSelect ⟨0x1A, tag, body⟩ s.taken :=
  requestArrives_serves (row := short 0x1A 2 onSelect) h rfl hb (by omega) (fun e => nomatch e)

theorem served_routeRead (h : s.serves tag) (hb : body.length = 1) :
    requestArrives ⟨0x1B, tag, body⟩ s = serveRequest onRouteRead ⟨0x1B, tag, body⟩ s.taken :=
  requestArrives_serves (row := short 0x1B 1 onRouteRead) h rfl hb (by omega) (fun e => nomatch e)

theorem served_layoutSet (h : s.serves tag) (hb : body.length = 49) :
    requestArrives ⟨0x20, tag, body⟩ s = serveRequest onLayoutSet ⟨0x20, tag, body⟩ s.taken :=
  requestArrives_serves (row := short 0x20 49 onLayoutSet) h rfl hb (by omega) (fun e => nomatch e)

theorem served_layoutRead (h : s.serves tag) (hb : body.length = 1) :
    requestArrives ⟨0x21, tag, body⟩ s = serveRequest onLayoutRead ⟨0x21, tag, body⟩ s.taken :=
  requestArrives_serves (row := short 0x21 1 onLayoutRead) h rfl hb (by omega) (fun e => nomatch e)

theorem served_renderMode (h : s.serves tag) (hb : body.length = 1) :
    requestArrives ⟨0x22, tag, body⟩ s = serveRequest onRenderMode ⟨0x22, tag, body⟩ s.taken :=
  requestArrives_serves (row := short 0x22 1 onRenderMode) h rfl hb (by omega) (fun e => nomatch e)

theorem served_steerSet (h : s.serves tag) (hb : body.length = 1) :
    requestArrives ⟨0x23, tag, body⟩ s = serveRequest onSteerSet ⟨0x23, tag, body⟩ s.taken :=
  requestArrives_serves (row := short 0x23 1 onSteerSet) h rfl hb (by omega) (fun e => nomatch e)

theorem served_volume (h : s.serves tag) (hb : body.length = 3) :
    requestArrives ⟨0x28, tag, body⟩ s = serveRequest onVolume ⟨0x28, tag, body⟩ s.taken :=
  requestArrives_serves (row := short 0x28 3 onVolume) h rfl hb (by omega) (fun e => nomatch e)

theorem served_volumeStep (h : s.serves tag) (hb : body.length = 2) :
    requestArrives ⟨0x29, tag, body⟩ s = serveRequest onVolumeStep ⟨0x29, tag, body⟩ s.taken :=
  requestArrives_serves (row := short 0x29 2 onVolumeStep) h rfl hb (by omega) (fun e => nomatch e)

theorem served_mute (h : s.serves tag) (hb : body.length = 2) :
    requestArrives ⟨0x2A, tag, body⟩ s = serveRequest onMute ⟨0x2A, tag, body⟩ s.taken :=
  requestArrives_serves (row := short 0x2A 2 onMute) h rfl hb (by omega) (fun e => nomatch e)

theorem served_channelSet (h : s.serves tag) (hb : body.length = 7) :
    requestArrives ⟨0x2B, tag, body⟩ s = serveRequest onChannelSet ⟨0x2B, tag, body⟩ s.taken :=
  requestArrives_serves (row := short 0x2B 7 onChannelSet) h rfl hb (by omega) (fun e => nomatch e)

theorem served_channelRead (h : s.serves tag) (hb : body.length = 1) :
    requestArrives ⟨0x2C, tag, body⟩ s = serveRequest onChannelRead ⟨0x2C, tag, body⟩ s.taken :=
  requestArrives_serves (row := short 0x2C 1 onChannelRead) h rfl hb (by omega) (fun e => nomatch e)

theorem served_load (h : s.serves tag) (hb : body.length = 2) :
    requestArrives ⟨0x2D, tag, body⟩ s = serveRequest onLoad ⟨0x2D, tag, body⟩ s.taken :=
  requestArrives_serves (row := short 0x2D 2 onLoad) h rfl hb (by omega) (fun e => nomatch e)

theorem served_rampSet (h : s.serves tag) (hb : body.length = 2) :
    requestArrives ⟨0x2E, tag, body⟩ s = serveRequest onRampSet ⟨0x2E, tag, body⟩ s.taken :=
  requestArrives_serves (row := short 0x2E 2 onRampSet) h rfl hb (by omega) (fun e => nomatch e)

theorem served_lipsync (h : s.serves tag) (hb : body.length = 2) :
    requestArrives ⟨0x2F, tag, body⟩ s = serveRequest onLipsync ⟨0x2F, tag, body⟩ s.taken :=
  requestArrives_serves (row := short 0x2F 2 onLipsync) h rfl hb (by omega) (fun e => nomatch e)

theorem served_encoderSet (h : s.serves tag) (hb : body.length = 2) :
    requestArrives ⟨0x30, tag, body⟩ s = serveRequest onEncoderSet ⟨0x30, tag, body⟩ s.taken :=
  requestArrives_serves (row := short 0x30 2 onEncoderSet) h rfl hb (by omega) (fun e => nomatch e)

theorem served_protectSet (h : s.serves tag) (hb : body.length = 13) :
    requestArrives ⟨0x38, tag, body⟩ s = serveRequest onProtectSet ⟨0x38, tag, body⟩ s.taken :=
  requestArrives_serves (row := short 0x38 13 onProtectSet) h rfl hb (by omega) (fun e => nomatch e)

theorem served_protectRead (h : s.serves tag) (hb : body.length = 1) :
    requestArrives ⟨0x39, tag, body⟩ s = serveRequest onProtectRead ⟨0x39, tag, body⟩ s.taken :=
  requestArrives_serves (row := short 0x39 1 onProtectRead) h rfl hb (by omega) (fun e => nomatch e)

theorem served_zoneAmp (h : s.serves tag) (hb : body.length = 1) :
    requestArrives ⟨0x3A, tag, body⟩ s = serveRequest onZoneAmp ⟨0x3A, tag, body⟩ s.taken :=
  requestArrives_serves (row := short 0x3A 1 onZoneAmp) h rfl hb (by omega) (fun e => nomatch e)

theorem served_faultClear (h : s.serves tag) (hb : body.length = 1) :
    requestArrives ⟨0x3B, tag, body⟩ s = serveRequest onFaultClear ⟨0x3B, tag, body⟩ s.taken :=
  requestArrives_serves (row := short 0x3B 1 onFaultClear) h rfl hb (by omega) (fun e => nomatch e)

theorem served_measure (h : s.servesLong tag) (hb : body.length = 7) :
    requestArrives ⟨0x40, tag, body⟩ s = serveRequest onMeasure ⟨0x40, tag, body⟩ s.taken :=
  requestArrives_serves (row := long 0x40 7 onMeasure) h.1 rfl hb (by omega) (fun _ => h.2)

theorem served_measureStop (h : s.serves tag) (hb : body.length = 0) :
    requestArrives ⟨0x41, tag, body⟩ s = serveRequest onMeasureStop ⟨0x41, tag, body⟩ s.taken :=
  requestArrives_serves (row := short 0x41 0 onMeasureStop) h rfl hb (by omega) (fun e => nomatch e)

theorem served_resultRead (h : s.serves tag) (hb : body.length = 0) :
    requestArrives ⟨0x42, tag, body⟩ s = serveRequest onResultRead ⟨0x42, tag, body⟩ s.taken :=
  requestArrives_serves (row := short 0x42 0 onResultRead) h rfl hb (by omega) (fun e => nomatch e)

theorem served_profileRead (h : s.serves tag) (hb : body.length = 0) :
    requestArrives ⟨0x43, tag, body⟩ s = serveRequest onProfileRead ⟨0x43, tag, body⟩ s.taken :=
  requestArrives_serves (row := short 0x43 0 onProfileRead) h rfl hb (by omega) (fun e => nomatch e)

theorem served_profileWrite (h : s.serves tag) (hb : body.length = 109) :
    requestArrives ⟨0x44, tag, body⟩ s = serveRequest onProfileWrite ⟨0x44, tag, body⟩ s.taken :=
  requestArrives_serves (row := short 0x44 109 onProfileWrite) h rfl hb (by omega) (fun e => nomatch e)

theorem served_measureSet (h : s.serves tag) (hb : body.length = 4) :
    requestArrives ⟨0x45, tag, body⟩ s = serveRequest onMeasureSet ⟨0x45, tag, body⟩ s.taken :=
  requestArrives_serves (row := short 0x45 4 onMeasureSet) h rfl hb (by omega) (fun e => nomatch e)

theorem served_tunerSet (h : s.serves tag) (hb : body.length = 7) :
    requestArrives ⟨0x48, tag, body⟩ s = serveRequest onTunerSet ⟨0x48, tag, body⟩ s.taken :=
  requestArrives_serves (row := short 0x48 7 onTunerSet) h rfl hb (by omega) (fun e => nomatch e)

theorem served_tune (h : s.serves tag) (hb : body.length = 6) :
    requestArrives ⟨0x49, tag, body⟩ s = serveRequest onTune ⟨0x49, tag, body⟩ s.taken :=
  requestArrives_serves (row := short 0x49 6 onTune) h rfl hb (by omega) (fun e => nomatch e)

theorem served_seek (h : s.servesLong tag) (hb : body.length = 1) :
    requestArrives ⟨0x4A, tag, body⟩ s = serveRequest onSeek ⟨0x4A, tag, body⟩ s.taken :=
  requestArrives_serves (row := long 0x4A 1 onSeek) h.1 rfl hb (by omega) (fun _ => h.2)

theorem served_scan (h : s.servesLong tag) (hb : body.length = 0) :
    requestArrives ⟨0x4B, tag, body⟩ s = serveRequest onScan ⟨0x4B, tag, body⟩ s.taken :=
  requestArrives_serves (row := long 0x4B 0 onScan) h.1 rfl hb (by omega) (fun _ => h.2)

theorem served_tunerStop (h : s.serves tag) (hb : body.length = 0) :
    requestArrives ⟨0x4C, tag, body⟩ s = serveRequest onTunerStop ⟨0x4C, tag, body⟩ s.taken :=
  requestArrives_serves (row := short 0x4C 0 onTunerStop) h rfl hb (by omega) (fun e => nomatch e)

theorem served_tunerRead (h : s.serves tag) (hb : body.length = 0) :
    requestArrives ⟨0x4D, tag, body⟩ s = serveRequest onTunerRead ⟨0x4D, tag, body⟩ s.taken :=
  requestArrives_serves (row := short 0x4D 0 onTunerRead) h rfl hb (by omega) (fun e => nomatch e)

theorem served_listRead (h : s.serves tag) (hb : body.length = 1) :
    requestArrives ⟨0x4E, tag, body⟩ s = serveRequest onListRead ⟨0x4E, tag, body⟩ s.taken :=
  requestArrives_serves (row := short 0x4E 1 onListRead) h rfl hb (by omega) (fun e => nomatch e)

theorem served_presetStore (h : s.serves tag) (hb : body.length = 8) :
    requestArrives ⟨0x4F, tag, body⟩ s = serveRequest onPresetStore ⟨0x4F, tag, body⟩ s.taken :=
  requestArrives_serves (row := short 0x4F 8 onPresetStore) h rfl hb (by omega) (fun e => nomatch e)

theorem served_presetRecall (h : s.serves tag) (hb : body.length = 1) :
    requestArrives ⟨0x50, tag, body⟩ s = serveRequest onPresetRecall ⟨0x50, tag, body⟩ s.taken :=
  requestArrives_serves (row := short 0x50 1 onPresetRecall) h rfl hb (by omega) (fun e => nomatch e)

theorem served_presetClear (h : s.serves tag) (hb : body.length = 1) :
    requestArrives ⟨0x51, tag, body⟩ s = serveRequest onPresetClear ⟨0x51, tag, body⟩ s.taken :=
  requestArrives_serves (row := short 0x51 1 onPresetClear) h rfl hb (by omega) (fun e => nomatch e)

theorem served_agcSet (h : s.serves tag) (hb : body.length = 4) :
    requestArrives ⟨0x52, tag, body⟩ s = serveRequest onAgcSet ⟨0x52, tag, body⟩ s.taken :=
  requestArrives_serves (row := short 0x52 4 onAgcSet) h rfl hb (by omega) (fun e => nomatch e)

theorem served_auxRead (h : s.serves tag) (hb : body.length = 1) :
    requestArrives ⟨0x59, tag, body⟩ s = serveRequest onAuxRead ⟨0x59, tag, body⟩ s.taken :=
  requestArrives_serves (row := short 0x59 1 onAuxRead) h rfl hb (by omega) (fun e => nomatch e)

theorem served_auxSet (h : s.serves tag) (hb : body.length = 1) :
    requestArrives ⟨0x5A, tag, body⟩ s = serveRequest onAuxSet ⟨0x5A, tag, body⟩ s.taken :=
  requestArrives_serves (row := short 0x5A 1 onAuxSet) h rfl hb (by omega) (fun e => nomatch e)

theorem served_relay (h : s.servesLong tag) (hb : body.length = 4 + (byteAt body 3).toNat) (hm : body.length ≤ 240) :
    requestArrives ⟨0x58, tag, body⟩ s = serveRequest onRelay ⟨0x58, tag, body⟩ s.taken :=
  requestArrives_serves (row := ⟨0x58, fun b => 4 + (byteAt b 3).toNat, true, onRelay⟩) h.1 rfl hb hm (fun _ => h.2)

end Sys2Proof.Machine
end

