-- ==== Sys2Proof/Laws/Table.lean ====
section
/-! SUPPORT. Reading a table after each of its updates. -/

namespace Sys2Proof.Table

variable {α β : Type} {n : Nat}

theorem ext_items {a b : Table α n} (h : a.items = b.items) : a = b := by
  cases a; cases b; cases h; rfl

@[simp] theorem get_set_same (t : Table α n) (i : Fin n) (x : α) : (t.set i x).get i = x := by
  simp [get, set]

theorem get_set_ne (t : Table α n) {i j : Fin n} (x : α) (h : i ≠ j) : (t.set i x).get j = t.get j := by
  have h' : i.1 ≠ j.1 := fun e => h (Fin.ext e)
  simp [get, set, h']

theorem get_set (t : Table α n) (i j : Fin n) (x : α) : (t.set i x).get j = if i = j then x else t.get j := by
  by_cases h : i = j
  · subst h; simp
  · simp [h, get_set_ne t x h]

@[simp] theorem get_tabulate (f : Fin n → α) (i : Fin n) : (tabulate f).get i = f i := by
  simp [get, tabulate]

@[simp] theorem get_fill (x : α) (i : Fin n) : (fill n x).get i = x := by
  simp [get, fill]

@[simp] theorem get_mapIdx (f : Fin n → α → β) (t : Table α n) (i : Fin n) : (t.mapIdx f).get i = f i (t.get i) := by
  simp [mapIdx]

@[simp] theorem get_modify_same (t : Table α n) (i : Fin n) (f : α → α) : (t.modify i f).get i = f (t.get i) := by
  simp [modify]

theorem get_modify_ne (t : Table α n) {i j : Fin n} (f : α → α) (h : i ≠ j) : (t.modify i f).get j = t.get j :=
  get_set_ne t _ h

theorem get_modify (t : Table α n) (i j : Fin n) (f : α → α) :
    (t.modify i f).get j = if i = j then f (t.get j) else t.get j := by
  by_cases h : i = j
  · subst h; simp
  · simp [h, get_modify_ne t f h]

/-- Two tables are equal when they hold the same records. -/
theorem ext_get {a b : Table α n} (h : ∀ i, a.get i = b.get i) : a = b := by
  apply ext_items
  apply List.ext_getElem (by rw [a.size, b.size])
  intro k hk hk'
  exact h ⟨k, by rw [← a.size]; exact hk⟩

@[simp] theorem set_get (t : Table α n) (i : Fin n) : t.set i (t.get i) = t := by
  apply ext_get; intro j; rw [get_set]; split
  · next h => rw [h]
  · rfl

end Sys2Proof.Table
end

