-- ==== Sys2Proof/Laws/Shared.lean ====
section
/-! SUPPORT. What the shared operations of the gain unit, the protection unit and the bus can do, one lemma for each, so that a
proof cites it and unfolds none of them. -/

namespace Sys2Proof.Machine

/-! ## Muting (R77, R79) -/

@[simp] theorem elapse_channel (s : State) (i : Fin 12) : (elapse s).channel i = s.channel i := rfl

theorem muteSlot_channel_same (s : State) (i : Fin 12) :
    (muteSlot i s).channel i
      = { s.channel i with current := -1000, coef := 0, early := keepEarly s.gain.gone (s.channel i).coef (s.channel i).early } := by
  simp [muteSlot, State.channel, State.onChannel, State.onGain]

theorem muteSlot_channel_ne (s : State) {i j : Fin 12} (h : i ≠ j) : (muteSlot i s).channel j = s.channel j := by
  simp [muteSlot, State.channel, State.onChannel, State.onGain, Table.get_modify_ne _ _ h]

/-- A mute of several slots changes the levels, the coefficients and the kept coefficients of those slots, and nothing else. -/
theorem foldl_muteSlot (l : List (Fin 12)) (s : State) :
    (∃ c, l.foldl (fun u i => muteSlot i u) s = s.onGain fun g => { g with channels := c })
      ∧ (∀ i, i ∈ l → ((l.foldl (fun u i => muteSlot i u) s).channel i).current = -1000
          ∧ ((l.foldl (fun u i => muteSlot i u) s).channel i).coef = 0)
      ∧ ∀ i, i ∉ l → (l.foldl (fun u i => muteSlot i u) s).channel i = s.channel i := by
  induction l generalizing s with
  | nil => exact ⟨⟨s.gain.channels, rfl⟩, by simp, by simp⟩
  | cons j rest ih =>
    obtain ⟨⟨c, hc⟩, hin, hout⟩ := ih (muteSlot j s)
    refine ⟨⟨c, by simpa [muteSlot, State.onChannel, State.onGain] using hc⟩, fun i hi => ?_, fun i hi => ?_⟩
    · by_cases h : i ∈ rest
      · exact hin i h
      · have : i = j := by simpa [h] using hi
        subst this
        simp [hout i h, muteSlot_channel_same]
    · simp only [List.mem_cons, not_or] at hi
      rw [List.foldl_cons, hout i hi.2, muteSlot_channel_ne s (Ne.symm hi.1)]

/-- What a mute can do: it changes the gain unit and the counter of the free values alone; the slots it names, and the zone line
output if it names that, are at −1,000 with coefficient 0, and the others are as they were. -/
theorem muteOutputs_spec (l : List (Fin 12)) (zone : Bool) (s : State) :
    let t := muteOutputs l zone s
    t = { s with gain := t.gain, free := t.free }
      ∧ (∀ i, i ∈ l → (t.channel i).current = -1000 ∧ (t.channel i).coef = 0)
      ∧ (∀ i, i ∉ l → t.channel i = s.channel i)
      ∧ (zone = true → t.gain.zoneCurrent = -1000 ∧ t.gain.zoneCoef = 0)
      ∧ (zone = false → t.gain.zoneCurrent = s.gain.zoneCurrent ∧ t.gain.zoneCoef = s.gain.zoneCoef) := by
  intro t
  have key : ∀ u : State, u = { s with gain := u.gain, free := u.free } → (∀ i, u.channel i = s.channel i) →
      u.gain.zoneCurrent = s.gain.zoneCurrent → u.gain.zoneCoef = s.gain.zoneCoef →
      let v := l.foldl (fun u i => muteSlot i u) u
      let w := if zone then muteZone v else v
      w = { s with gain := w.gain, free := w.free }
        ∧ (∀ i, i ∈ l → (w.channel i).current = -1000 ∧ (w.channel i).coef = 0)
        ∧ (∀ i, i ∉ l → w.channel i = s.channel i)
        ∧ (zone = true → w.gain.zoneCurrent = -1000 ∧ w.gain.zoneCoef = 0)
        ∧ (zone = false → w.gain.zoneCurrent = s.gain.zoneCurrent ∧ w.gain.zoneCoef = s.gain.zoneCoef) := by
    intro u hu hc hz hk
    obtain ⟨⟨c, hv⟩, hin, hout⟩ := foldl_muteSlot l u
    cases zone
    · refine ⟨?_, hin, fun i hi => (hout i hi).trans (hc i), by simp, fun _ => ?_⟩
      · simp only [Bool.false_eq_true, if_false, hv]; rw [hu]; rfl
      · simp only [Bool.false_eq_true, if_false, hv]; exact ⟨hz, hk⟩
    · refine ⟨?_, hin, fun i hi => (hout i hi).trans (hc i), fun _ => ⟨rfl, rfl⟩, by simp⟩
      simp only [if_true, hv]; rw [hu]; rfl
  exact key
    (if (l.any fun i => decide ((s.channel i).coef ≠ 0)) || (zone && decide (s.gain.zoneCoef ≠ 0)) then elapse s else s)
    (by split <;> rfl) (by intro i; split <;> rfl) (by split <;> rfl) (by split <;> rfl)

/-! ## Reporting a group (R110) -/

/-- A report queues at most a notice and may set the reported attenuation of the group; it changes nothing else. -/
theorem protectReport_spec (g : Fin 6) (before : Group) (s : State) :
    ∃ (l : Link) (a : Int), protectReport g before s = (s.onLink fun _ => l).onGroup g fun x => { x with reported := a } := by
  unfold protectReport
  split
  · rename_i reason _
    exact ⟨_, _, congrArg (fun u : State => u.onGroup g fun x => { x with reported := x.attenuation })
      (emit_eq .protect (protectBody g reason (s.group g)) s)⟩
  · exact ⟨s.link, (s.group g).reported, by
      simp only [State.onGroup, State.onProtect, State.onLink, State.group, Table.modify]
      exact (congrArg (fun t => ({ s with protect := { s.protect with groups := t } } : State)) (Table.set_get _ g)).symm⟩

/-! ## The bus (R167) -/

/-- The arbiter grants one requester that has a transaction in its slot, or does nothing. -/
theorem grant_cases (b : Bus) : grant b = b ∨ ∃ q, (slotOf b q).isSome = true ∧ grant b = grantTo q b := by
  unfold grant
  split
  · split
    · rename_i q h
      exact .inr ⟨q, List.find?_some (p := fun q => (slotOf b q).isSome) h, rfl⟩
    · exact .inl rfl
  · split
    · rename_i h
      exact .inr ⟨.relay, h, rfl⟩
    · exact .inl rfl
  · exact .inl rfl

/-- No arbitration loses what the controller has done: the record stays, or the whole of it is the sequence before. -/
theorem grant_keeps_moves (b : Bus) :
    ((grant b).moves = b.moves ∧ (grant b).movesBefore = b.movesBefore)
      ∨ ((grant b).moves = opening b.state ∧ (grant b).movesBefore = b.moves) := by
  rcases grant_cases b with h | ⟨q, -, h⟩ <;> rw [h]
  · exact .inl ⟨rfl, rfl⟩
  · exact .inr ⟨rfl, rfl⟩

end Sys2Proof.Machine
end

