-- ==== Sys2Proof/Tests/Slice0.lean ====
section
/-! SUPPORT. Tests of one step each, with values from the spec's worked examples or worked out by hand from its rules; the
ill-formed terms that `Instr.wf` refuses; and for each statement of Certificates/Slice0/Obligations.lean that has hypotheses,
states and operands that meet them. -/

namespace Sys2Proof.Tests

open Sys2Proof.Machine

/-! ## States to start from -/

/-- The state after one command. -/
def after (c : Instr) (s : State) : State :=
  match exec c s with
  | .next t => t
  | _ => s

/-- After a reset, with the link in another operating state. -/
def inState (o : OpState) : State := State.reset.onLink fun l => { l with opState := o }

/-- A RUNNING part with every group ON. -/
def up : State :=
  (inState .running).onProtect fun p => { p with groups := p.groups.mapIdx fun _ g => { g with state := .on, driven := true } }

/-- A RUNNING part whose routes are in a state, with the source of index 0 selected. -/
def routed (main zone : RouteState) (purpose : Option Purpose) : State :=
  (up.onRoute .main fun x => { x with state := main, selected := some 0, purpose := purpose }).onRoute .zone fun x =>
    { x with state := zone, selected := some 0, purpose := purpose }

/-- A RUNNING part whose tuner is in a state, with a source that is bound to it on MAIN. -/
def radio (t : TunerState) (o : Option TunerOp) (r : RouteState) : State :=
  ((routed r .silent none).setSource 0 { State.resetSource with port := 4, tunerBound := true }).onTuner fun x =>
    { x with
      state := t, op := o, hush := some 250, poll := some 50, settle := some 8, opTag := some 7, seek := some (true, 87500)
      scan := some ⟨98000, false, [], none, 0, false⟩ }

/-- The enabled source of index 0 takes port A1, which is in a lock state. -/
def onA1 (k : LockState) (s : State) : State :=
  (s.setSource 0 { State.resetSource with port := 6, enabled := true }).onPort 6 fun x =>
    { x with enabled := decide (k = .locked), lock := k, channels := 2 }

/-- A MIC run on slots 1 and 2. -/
def run0 (st : RunState) (todo : List (Fin 12)) (p : Option Probe) : Run :=
  ⟨st, [0, 1], todo, p, 2, -200, 0, .stage, 5, 24, 0, .done⟩

def probe0 (ph : Phase) : Probe := ⟨0, 1, false, ph, 0, 2000, -722, 8000, none, 0, false, false, []⟩

/-- A part with a run under way, MAIN in a state. -/
def measuring (r : Run) (main : RouteState) : State :=
  (up.onRoute .main fun x => { x with state := main, selected := some 0, purpose := if main = .fadingOut then some .measure else none }).onMeasure
    fun m => { m with run := some r }

/-- A part whose bus carries a transaction of a requester. -/
def busy (q : Requester) (x : Transaction) (s : State) : State :=
  (setSlot q (some x) s.bus |> fun b => s.onBus fun _ => { b with state := .active, inProgress := some q, last := q, relayTag := some 9 })

/-! ## Well-formed commands -/

set_option maxRecDepth 8000 in
theorem test_wf_accepts_requests_and_events :
    Instr.wf (.volume 1 0 0) = true ∧ Instr.wf (.relay 1 0 0 0 (List.replicate 236 0)) = true
      ∧ Instr.wf (.measurementWindowComplete 5 1 1 1) = true ∧ Instr.wf (.transactionEnd (.nackData 31)) = true := by decide

theorem test_wf_refuses_tag_zero :
    Instr.wf (.badKind 0 0 []) = false ∧ Instr.wf (.ident 0) = false ∧ Instr.wf (.noticeMask 0 0) = false
      ∧ Instr.wf (.portSet 0 1 1) = false ∧ Instr.wf (.sourceRead 0 1) = false ∧ Instr.wf (.select 0 0 0) = false
      ∧ Instr.wf (.layoutRead 0 0) = false ∧ Instr.wf (.volume 0 0 0) = false ∧ Instr.wf (.channelSet 0 1 0 0 0 0) = false
      ∧ Instr.wf (.lipsync 0 0) = false ∧ Instr.wf (.rampSet 0 1 1) = false ∧ Instr.wf (.zoneAmp 0 0) = false
      ∧ Instr.wf (.measure 0 1 1 0 1 0) = false ∧ Instr.wf (.measureStop 0) = false ∧ Instr.wf (.measureSet 0 0 0) = false
      ∧ Instr.wf (.tune 0 0 0 0) = false ∧ Instr.wf (.seek 0 0) = false ∧ Instr.wf (.scan 0) = false
      ∧ Instr.wf (.relay 0 0 0 0 []) = false ∧ Instr.wf (.auxRead 0 0) = false := by decide

set_option maxRecDepth 8000 in
theorem test_wf_refuses_lengths :
    Instr.wf (.badKind 1 0 (List.replicate 241 0)) = false
      ∧ Instr.wf (.sourceSet 1 1 ⟨0, 1, 0, 1, [1], 0, 0, 0, 0, 0⟩) = false
      ∧ Instr.wf (.sourceSet 0 1 ⟨0, 1, 0, 1, List.replicate 8 0, 0, 0, 0, 0, 0⟩) = false
      ∧ Instr.wf (.layoutSet 1 [] 0) = false ∧ Instr.wf (.layoutSet 0 (List.replicate 12 ⟨0, 0, 0⟩) 0) = false
      ∧ Instr.wf (.protectSet 1 0 0 0 0 0 0 []) = false
      ∧ Instr.wf (.profileWrite 1 [] 0 (List.replicate 12 ⟨0, 0, 0⟩)) = false
      ∧ Instr.wf (.profileWrite 1 (List.replicate 12 ⟨0, 0, 0⟩) 0 []) = false
      ∧ Instr.wf (.relay 1 0 0 0 (List.replicate 237 0)) = false := by decide

theorem test_wf_refuses_events_of_other_ports :
    Instr.wf (.measurementWindowComplete 6 0 0 0) = false ∧ Instr.wf (.edgeTimerExpiry 9 true) = false
      ∧ Instr.wf (.clockResumed 6) = false ∧ Instr.wf (.statusBlockComplete 3 true 16) = false
      ∧ Instr.wf (.statusBlockComplete 4 true 15) = false ∧ Instr.wf (.statusBlockComplete 5 true 25) = false
      ∧ Instr.wf (.adcSample 5 0 0) = false := by decide

theorem test_wf_refuses_impossible_samples_and_answers :
    PortFrame.wf ⟨6, []⟩ = false ∧ PortFrame.wf ⟨0, List.replicate 9 0⟩ = false
      ∧ Instr.wf (.renderBlockBoundary []) = false ∧ Instr.wf (.renderBlockBoundary (List.replicate 48 [⟨6, []⟩])) = false
      ∧ Instr.wf (.converterFilled .main [List.replicate 9 0]) = false
      ∧ Instr.wf (.converterSlip .zone [List.replicate 9 0]) = false
      ∧ Instr.wf (.transactionEnd (.done (List.replicate 33 0))) = false
      ∧ Instr.wf (.transactionEnd (.nackData 32)) = false
      ∧ Instr.wf (.recoveryEnd ⟨List.replicate 10 true, false, true, true⟩) = false := by decide

/-! ## Words: the table gives no row any bits -/

theorem test_decode_no_word : decodeTableWord 8 0x01 = none ∧ decodeTableWord 0 0 = none := by decide

theorem test_fetch_word_changes_nothing : State.reset.withFetchWord 8 0x01 = State.reset := by decide

/-! ## Link (chapters 9 and 10) -/

/-- The IDENT frame of section 9.1: C5 00 01 11 EE. -/
theorem test_frame_ident :
    frameBytes 0x01 0x11 [] = [0xC5, 0x00, 0x01, 0x11, 0xEE]
      ∧ (after (.frameReceived ([0xC5, 0x00, 0x01, 0x11, 0xEE].map some)) .reset).link.outbound.drop 1
        = [⟨.reply, 0x81, 0x11, [0, 0x4B, 0x4C, 0x49, 0x4D, 0x42, 0x41, 0x52, 0x4F, 0xEC, 0x04, 3, 10, 12, 12, 6, 30]⟩] := by
  decide

/-- Section 10.7: the VOLUME request, its reply with the check byte 0x84, and the notice after it. -/
theorem test_volume_request :
    (after (.frameReceived ([0xC5, 0x03, 0x28, 0x30, 0x00, 0xA2, 0xFE, 0x05].map some)) .reset).link.outbound.drop 1
        = [⟨.reply, 0xA8, 0x30, [0x00, 0x00, 0xA2, 0xFE]⟩, ⟨.event, 0xE2, 0, [1, 0, 0xA2, 0xFE, 0, 0]⟩]
      ∧ frameBytes 0xA8 0x30 [0x00, 0x00, 0xA2, 0xFE] = [0xC5, 0x04, 0xA8, 0x30, 0x00, 0x00, 0xA2, 0xFE, 0x84] := by decide

/-- Section 10.7: the same request one byte short is BAD_LENGTH. -/
theorem test_bad_length :
    (after (.badKind 0x30 0x28 [0x00, 0xA2]) .reset).link.outbound.drop 1 = [⟨.reply, 0xA8, 0x30, [0x13]⟩]
      ∧ (after (.badKind 0x30 0x77 [0x00, 0xA2]) .reset).link.outbound.drop 1 = [⟨.reply, 0xFF, 0x30, [0x12, 0x77]⟩] := by decide

theorem test_gap_expiry :
    (after .gapTimerExpiry (State.reset.onLink fun l => { l with assembler := .tag 0 0x28, gapDeadline := some 5 })).link.outbound.drop 1
      = [⟨.event, 0xE7, 0, [0, 1, 1, 0x28, 0, 0]⟩] := by decide

theorem test_frame_sent : (after .frameSent .reset).link.outbound = [] := by decide

theorem test_part_read : ((after (.partRead 1) .reset).link.outbound.map (·.body.length)) = [3, 22] := by decide

theorem test_link_stats : ((after (.linkStats 1 1) .reset).link.outbound.map (·.body.take 3)) = [[2, 0, 3], [0, 1, 0]] := by decide

theorem test_notice_mask : (after (.noticeMask 1 0x05) .reset).link.mask = 0x05 := by decide

/-- Section 9.9: the STANDBY of a WAKING part ends the WAKE and is DONE at once. -/
theorem test_standby_during_wake :
    ((after (.standby 0x22) ((inState .waking).onLink fun l => { l with wakeTag := some 0x21 })).link.outbound.map
        fun f => (f.kind, f.tag, f.body.take 2)).drop 1
      = [(0x84, 0x22, [1, 3]), (0xE0, 0x21, [0x03, 0x10]), (0xE0, 0x22, [0x04, 0x00])] := by decide

theorem test_wake_starts_the_first_group :
    ((after (.wake 0x21) .reset).group 0).state = .powering ∧ ((after (.wake 0x21) .reset).link.opState = .waking) := by decide

theorem test_restart : (after (.restart 1) .reset).link.restarting = true := by decide

theorem test_soft_reset :
    (after (.softReset true) ((after (.restart 1) .reset).onLink fun l => { l with outbound := l.outbound.drop 1 })).link.cause = .restart := by
  decide

theorem test_hard_reset : (after (.hardReset .pin true) up).link.outbound = [⟨.event, 0xE7, 0, [2, 1, 3]⟩] := by decide

theorem test_quiet_timer :
    (after .quietTimerExpiry ((routed .fadingOut .silent (some .standby)).onLink fun l =>
      { l with opState := .quieting, quietDeadline := some 250 })).link.opState = .standby := by decide

/-! ## Ports (chapter 1) -/

/-- Section 1.10: windows 1, 3 and 4, and the stop of the clock with the line low. -/
theorem test_window_locks_two_channel :
    let t := after (.measurementWindowComplete 1 16390 16380 4096) (after (.portSet 1 2 1) .reset)
    ((t.port 1).lock, (t.port 1).period, (t.port 1).bits, (t.port 1).rate, (t.port 1).format)
      = (.locked, 32770, 64, .r48, .twoChannel) := by decide

theorem test_window_breaks_the_lock :
    let s := State.reset.onPort 1 fun x => { x with enabled := true, lock := .locked, rate := .r48, format := .twoChannel, channels := 2 }
    let t := after (.measurementWindowComplete 1 1020 15364 16384) s
    ((t.port 1).lock, (t.port 1).bits, (t.port 1).rate) = (.measuring, 256, .none)
      ∧ ((after (.measurementWindowComplete 1 1020 15365 16384) t).port 1).format = .tdm8 := by decide

theorem test_clock_stops_low :
    let s := State.reset.onPort 1 fun x => { x with enabled := true, lock := .locked, rate := .r96, format := .tdm8, channels := 8 }
    let t := (after (.edgeTimerExpiry 1 false) s).port 1
    (t.lock, t.high, t.low) = (.noClockLow, 0, 4194303) := by decide

theorem test_clock_resumes :
    ((after (.clockResumed 1) (State.reset.onPort 1 fun x => { x with lock := .noClockLow })).port 1).lock = .measuring := by decide

theorem test_status_block :
    ((after (.statusBlockComplete 4 true 24) (State.reset.onPort 4 fun x => { x with lock := .measuring })).port 4).nonAudio = true := by
  decide

set_option maxRecDepth 8000 in
/-- Section 1.11: trim codes 120 and 8, the second sample a clip. -/
theorem test_adc_trim_and_clip :
    let x : Port := { State.resetPort with lock := .locked, offsetTrim := 120, gainTrim := 8 }
    trimmed x 4000000 = 8001024 ∧ trimmed x (BitVec.ofInt 24 (-4200000)) = -8398976
      ∧ ((after (.adcSample 6 4193488 0) (State.reset.onPort 6 fun _ => x)).port 6).clips = 1 := by decide

theorem test_adc_trim_request :
    ((after (.adcTrim 1 7 120 8) .reset).port 6).gainTrim = 8
      ∧ (after (.adcTrim 1 6 120 8) .reset).ports = State.reset.ports := by decide

theorem test_port_read_clears :
    ((after (.portRead 1 7 1) (State.reset.onPort 6 fun x => { x with clips := 3 })).port 6).clips = 0 := by decide

/-! ## Sources and routes (chapter 2) -/

theorem test_source_set_clamps :
    ((after (.sourceSet 1 7 ⟨1, 5, 0, 2, [1, 2, 0, 0, 0, 0, 0, 0], 200, 0, 1, 0, 0⟩) .reset).source 6).trim = 120 := by decide

theorem test_source_read_unknown : ((after (.sourceRead 1 13) .reset).link.outbound.drop 1) = [⟨.reply, 0x99, 1, [0x15]⟩] := by
  decide

/-- Section 2.14: SELECT on a PLAYING route fades it, and the second SELECT replaces the pending source. -/
theorem test_select_fades :
    (after (.select 1 0 5) (routed .playing .silent none)).main.pending = some (some 4)
      ∧ (after (.select 1 0 7) (routed .fadingOut .silent (some .switch))).main.pending = some (some 6) := by decide

theorem test_route_read_unknown_keeps_the_routes :
    (after (.routeRead 1 2) up).main = up.main ∧ (after (.routeRead 1 0) up).free = 0 := by decide

theorem test_fade_out_completion :
    (after (.fadeOutCompletion .main) (routed .fadingOut .silent (some .switch))).main.reason = some .sourceDisabled := by decide

set_option maxRecDepth 8000 in
theorem test_relayout_point :
    (after .relayoutPoint (State.reset.onRoute .main fun x => { x with relayoutDue := true })).main.relayoutDue = false := by decide

set_option maxRecDepth 8000 in
theorem test_converter_filled :
    (after (.converterFilled .zone [[1, 2]]) ((up.onPort 6 fun x => { x with lock := .locked, channels := 2 }).onConv .zone fun c =>
      { c with state := .filling, input := some ⟨6, 0, 2, false⟩, fifo := List.replicate 127 [0, 0] })).zone.conv.state = .running := by
  decide

set_option maxRecDepth 8000 in
/-- R40: a converter on A1 keeps its 128 frames, and each write reads one. -/
theorem test_converter_on_a_port_holds_its_fill :
    let s := (up.onPort 6 fun x => { x with lock := .locked, channels := 2 }).onConv .zone fun c =>
      { c with state := .running, input := some ⟨6, 0, 2, false⟩, fifo := List.replicate 128 [1, 2] }
    (after (.adcSample 6 5 5) s).zone.conv.fifo.length = 128 ∧ (after (.adcSample 6 5 5) s).zone.conv.given = [[1, 2]] := by decide

set_option maxRecDepth 8000 in
theorem test_converter_slip :
    let s := (up.onPort 0 fun x => { x with lock := .locked, channels := 2 }).onConv .zone fun c =>
      { c with state := .running, input := some ⟨0, 0, 2, false⟩, fifo := List.replicate 255 [0, 0] }
    (after (.converterSlip .zone [[1, 2]]) s).zone.conv.fifo.length = 128
      ∧ ((after (.converterSlip .zone []) s).port 0).slips = 1 := by decide

/-! ## Rendering (chapter 3) -/

def slots0 (l : List (Byte × Byte × Word16)) : List RawSlot :=
  (l.map fun x => ⟨x.1, x.2.1, x.2.2⟩) ++ List.replicate (12 - l.length) ⟨0, 0, 0⟩

/-- R64: 70 becomes 80, 130 becomes 120 and 135 becomes 150, and the request is CLAMPED. -/
theorem test_layout_crossovers :
    let t := after (.layoutSet 1 (slots0 [(1, 0, 70), (2, 0, 130), (3, 1, 135)]) 0) .reset
    ((t.render.requested.slots.items.map (·.bass)).take 3)
        = [some (.large, 80), some (.large, 120), some (.small, 150)]
      ∧ (t.link.outbound.map (·.body.head?)) = [some 2, some 2] := by decide

/-- Layout B of section 3.3.1: TRL reaches slot 1 at 8,192. -/
theorem test_fold_chain :
    let l : Layout := ⟨⟨[⟨.fl, some (.large, 80)⟩, ⟨.fr, some (.large, 80)⟩, ⟨.c, some (.large, 100)⟩]
      ++ List.replicate 9 ⟨.unassigned, none⟩, rfl⟩, true⟩
    directRow l [0, 1, 2] .trl = [(0, 8192)] ∧ directRow l [0, 1, 2] .sl = [(0, 11585)] := by decide

/-- Section 3.6.1: the accumulators and the steering after blocks 3 and 4. -/
theorem test_steering :
    steerEnergy 2 3500000 0 = 2625000 ∧ steerEnergy 2 2000000 8000000 = 3500000 ∧ steerSigma 2625000 2000000 = 9299
      ∧ steerSigma 1968750 3500000 = 5898 := by decide

theorem test_render_mode : (after (.renderMode 1 2) .reset).render.override = some .stereo
    ∧ (after (.renderMode 1 4) .reset).render.override = none := by decide

theorem test_render_mode_take_effect :
    (after .renderModeTakeEffect (State.reset.onRender fun r => { r with modeDue := true })).render.modeDue = false := by decide

set_option maxRecDepth 8000 in
theorem test_layout_read : ((after (.layoutRead 1 1) .reset).link.outbound.map (·.body.length)) = [3, 148] := by decide

theorem test_steer_set : (after (.steerSet 1 1) .reset).render.steerRate = 2 := by decide

/-! ## Gain (chapter 4) -/

/-- Section 4.7.1: the coefficients of -40.0 dB and -39.0 dB. -/
theorem test_gain_law : gainLaw (-400) = 10321 ∧ gainLaw (-390) = 11585 := by decide

/-- Section 4.7.1: with the slot at -400 below its target, the boundary raises it by the up step. -/
theorem test_boundary_ramps :
    let s := (routed .playing .silent none).onChannel 0 fun c => { c with current := -450 }
    ((after (.renderBlockBoundary []) s).channel 0).current = -445 := by decide

/-- Section 4.4.1: the fourth forward change steps V up; both lines at once are an error. -/
theorem test_encoder :
    let s := State.reset.onGain fun g => { g with encoder := ⟨true, false, true, 3, 0⟩ }
    (after (.encoderLineChange false false) s).gain.mainVolume = -395
      ∧ (after (.encoderLineChange true false) s).gain.encoder = ⟨true, true, false, 3, 1⟩ := by decide

theorem test_encoder_set : (after (.encoderSet 1 1 0) .reset).gain.encoder.enabled = true := by decide

/-- R84: -347 becomes -345, +153 becomes +150. -/
theorem test_volume_rounds_and_clamps :
    (after (.volume 1 0 (BitVec.ofInt 16 (-347))) .reset).gain.mainVolume = -345
      ∧ (after (.volume 1 0 153) .reset).gain.mainVolume = 150 := by decide

theorem test_volume_step : (after (.volumeStep 1 1 0xFF) .reset).gain.zoneVolume = -405 := by decide

theorem test_mute : (after (.mute 1 1 1) .reset).gain.zoneMute = true := by decide

theorem test_channel_set :
    ((after (.channelSet 1 3 1900 5 1 1) .reset).channel 2).pending = ⟨1800, 5, true⟩
      ∧ ((after (.channelSet 1 3 1900 5 1 1) .reset).channel 2).marked = true := by decide

theorem test_channel_read : ((after (.channelRead 1 0) .reset).link.outbound.drop 1) = [⟨.reply, 0xAC, 1, [0x15]⟩] := by decide

theorem test_load : ((after (.load 1 0x004) .reset).channel 2).marked = true := by decide

theorem test_load_transfer :
    ((after .loadTransfer (State.reset.onChannel 2 fun c => { c with marked := true, pending := ⟨300, 7, false⟩ })).channel 2).active
      = ⟨300, 7, false⟩ := by decide

theorem test_redelay_commit :
    ((after .redelayCommit (State.reset.onChannel 0 fun c => { c with redelay := true, allocated := 70 })).channel 0).committed = 70 := by
  decide

/-- Section 4.8.1: 50, 80, 150 and 130 cm. -/
theorem test_alignment : [350, 320, 250, 270].map (alignFrames 400) = [70, 112, 210, 182] := by decide

theorem test_lipsync : (after (.lipsync 1 50) .reset).gain.lipFrames = 2400 := by decide

theorem test_ramp_set : (after (.rampSet 1 0 60) .reset).gain.downStep = 1 ∧ (after (.rampSet 1 0 60) .reset).gain.upStep = 50 := by
  decide

/-! ## Protection (chapter 5) -/

/-- Section 5.10: the spacing expiry starts G2, and a readback of the other level latches it with cause LINE. -/
theorem test_spacing_and_readback :
    let s := (inState .waking).onProtect fun p => { p with spacing := some 50, startQueue := [1, 2] }
    let t := after .spacingTimerExpiry s
    (t.group 1).state = .powering ∧ t.protect.startQueue = [2] ∧ t.protect.spacing = some 100
      ∧ ((after (.readbackCheck 1 false) t).group 1).cause = .line := by decide

theorem test_settle :
    let s := up.onGroup 0 fun g => { g with state := .powering, settle := some 200 }
    ((after (.settleTimerExpiry 0 true) s).group 0).state = .on
      ∧ ((after (.settleTimerExpiry 0 false) s).group 0).state = .faultWait := by decide

/-- Section 5.11: the first fault opens the window, and the window's expiry clears the count. -/
theorem test_fault_and_window :
    let t := (after (.faultEdge 4) up).group 4
    (t.state, t.faultCount, t.windowStart, t.retry) = (.faultWait, 1, some 0, some 2000)
      ∧ ((after (.faultWindowExpiry 4) (after (.faultEdge 4) up)).group 4).faultCount = 0 := by decide

/-- R95: a start and a fault within 1 ms leave one check for each change of the level. -/
theorem test_two_changes_leave_two_checks :
    let s := up.onGroup 4 fun g => { g with state := .powering, settle := some 200, readback := [1] }
    ((after (.faultEdge 4) s).group 4).readback = [1, 1]
      ∧ ((after (.readbackCheck 4 true) (after (.faultEdge 4) s)).group 4).cause = .line := by decide

theorem test_retry : ((after (.retryTimerExpiry 4) (after (.faultEdge 4) up)).group 4).state = .powering := by decide

/-- Section 5.12: 81 degrees steps the attenuation down by 10; section 10.6: 0xFED4 is -2 degrees, which steps it up. -/
theorem test_poll_outcome :
    let s := (busy .protect ⟨0x48, [], 2, false⟩ up).onProtect fun p => { p with polling := some 2 }
    ((after (.transactionEnd (.done [0x51, 0x40])) s).group 2).attenuation = -10
      ∧ ((after (.transactionEnd (.done [0xFE, 0xD4])) (s.onGroup 2 fun g => { g with attenuation := -120 })).group 2).attenuation = -115 := by
  decide

set_option maxRecDepth 8000 in
theorem test_poll_tick :
    let s := (up.onGroup 2 fun g => { g with sensor := some 0x48 }).onProtect fun p => { p with tick := some 100 }
    (after (.pollTick 0x3F) s).bus.protectSlot = some ⟨0x48, [], 2, false⟩ := by decide

theorem test_protect_set :
    (after (.protectSet 1 100 100 5 0 2 3 (List.replicate 6 0xFF)) .reset).protect.settings = ⟨100, 105, 5, -30, 2, 3⟩ := by decide

theorem test_protect_read :
    ((after (.protectRead 1 1) (up.onGroup 0 fun g => { g with thermalTrips := 4 })).group 0).thermalTrips = 0 := by decide

theorem test_fault_clear :
    ((after (.faultClear 1 2) (State.reset.onGroup 1 fun g => { g with state := .latched, cause := .line })).group 1).state = .off := by
  decide

theorem test_zone_amp : (after (.zoneAmp 1 1) .reset).protect.zoneRequested = true := by decide

/-! ## Room measurement (chapter 6) -/

/-- Section 6.10: the levels of the ambient peak, and the distances. -/
theorem test_measured_levels : ambientLevel 2000 0 = -722 ∧ roundDiv (980 * 34300) 48000 = 700 ∧ roundDiv (981 * 34300) 48000 = 701 := by
  decide +kernel

theorem test_measure_starts :
    let s := (routed .silent .silent none).onPort 9 fun x => { x with lock := .locked }
    (after (.measure 5 0x17 2 (BitVec.ofInt 16 (-200)) 1 2) s).main.state = .measure := by decide

theorem test_slot_turn :
    ((after .slotTurn (measuring (run0 .probing [0, 1] none) .measure)).measure.run.bind (·.probe)).map (·.slot) = some 0 := by
  decide

theorem test_ambient_end_posts_the_burst :
    let t := after .ambientPhaseEnd (measuring (run0 .probing [1] (some (probe0 .ambient))) .measure)
    t.gain.burst = some ⟨0, -200, 0xACE1, 960⟩ ∧ ((t.measure.run.bind (·.probe)).map (·.threshold)) = some 8000 := by decide

theorem test_burst_end :
    (after .burstEnd ((measuring (run0 .probing [1] (some (probe0 .listen))) .measure).onGain fun g =>
      { g with burst := some ⟨0, -200, 0xACE1, 0⟩ })).gain.burst = none := by decide

theorem test_listen_end :
    ((after .listenPhaseEnd (measuring (run0 .probing [1] (some (probe0 .listen))) .measure)).measure.run.bind (·.probe)).map
      (·.repetition) = some 2 := by decide

theorem test_measure_complete : (after .measureComplete (measuring (run0 .restoring [] none) .silent)).measure.run = none := by
  decide

theorem test_measure_stop :
    ((after (.measureStop 1) (measuring (run0 .probing [1] none) .measure)).measure.run.map (·.outcome)) = some .aborted := by
  decide

/-- R81: a run that is stopped at once leaves the delay lines silent. -/
theorem test_release_silences_the_lines :
    let s := (measuring (run0 .probing [1] none) .measure).onChannel 0 fun c => { c with committed := 2, line := [5, 6] }
    s.channel 0 ≠ (after (.measureStop 1) s).channel 0 ∧ ((after (.measureStop 1) s).channel 0).line = [] := by decide

theorem test_reads_of_results :
    ((after (.resultRead 1) .reset).link.outbound.map (·.kind)) = [0xE7, 0xC2]
      ∧ ((after (.profileRead 1) .reset).link.outbound.map (·.kind)) = [0xE7, 0xC3] := by decide

theorem test_profile_write :
    ((after (.profileWrite 1 (slots0 [(1, 0, 80), (2, 0, 80)]) 0 (List.replicate 12 ⟨500, 3, 0⟩)) .reset).channel 11).pending
      = ⟨500, 3, false⟩ := by decide

theorem test_measure_set : (after (.measureSet 1 600 0) .reset).measure.latency = 480 := by decide

/-! ## Radio tuning (chapter 7) -/

/-- R138: 98,250 becomes 98,300, 98,240 becomes 98,200, and 1,000 becomes 999. -/
theorem test_rasters :
    nearestChannel .fm 100 98250 = 98300 ∧ nearestChannel .fm 100 98240 = 98200 ∧ nearestChannel .am 9 1000 = 999
      ∧ inBand .fm 100 87400 = false ∧ inBand .fm 200 87600 = false := by decide

/-- Section 10.6: 98,400 kHz is written as 0x01 0x80 0x60. -/
theorem test_tune_writes :
    (after (.tune 1 0 98400 0) (radio .listening none .silent)).bus.tunerSlot = some ⟨0x60, [0, 0, 0x01, 0x80, 0x60], 0, false⟩ := by
  decide

/-- Section 7.11: a SEEK of a playing radio hushes it; the hush timer begins the seek at the next channel. -/
theorem test_seek :
    (after (.seek 2 1) (radio .listening none .playing)).main.purpose = some .hold
      ∧ (after .hushTimerExpiry (radio .hushing (some (.seek true)) .fadingOut)).tuner.frequency = 87600 := by decide

theorem test_scan : (after (.scan 2) (radio .tuning none .silent)).tuner.state = .scanning := by decide

theorem test_tuner_stop : (after (.tunerStop 2) (radio .seeking none .waiting)).tuner.state = .tuning := by decide

theorem test_tuner_set : (after (.tunerSet 1 200 9 30 8 40 0 0x60) .reset).tuner.frequency = 87900 := by decide

theorem test_tuner_reads :
    ((after (.tunerRead 1) .reset).link.outbound.map (·.kind)) = [0xE7, 0xCD]
      ∧ ((after (.listRead 1 0) .reset).link.outbound.drop 1) = [⟨.reply, 0xCE, 1, [0, 0, 100, 0, 0xCC, 0x55, 1, 0, 0]⟩] := by
  decide

theorem test_presets :
    (after (.presetStore 1 30 1 0 98250 1) .reset).tuner.presets.get 29 = some ⟨.fm, 98300, true⟩
      ∧ ((after (.presetRecall 1 1) .reset).link.outbound.drop 1) = [⟨.reply, 0xD0, 1, [0x16]⟩] := by decide

theorem test_preset_clear :
    (after (.presetClear 1 30) (after (.presetStore 1 30 1 0 98250 1) .reset)).tuner.presets.get 29 = none := by decide

theorem test_agc_set : (after (.agcSet 1 2 10 2000) (radio .listening none .silent)).tuner.agcA = 1023 := by decide

/-- Section 7.11: at level 44 against a target of 60 the AGC goes from 512 to 576. -/
theorem test_listening_read :
    (after (.transactionEnd (.done [44, 12, 1])) (busy .tuner ⟨0x60, [8], 3, false⟩ ((radio .listening none .playing).onTuner fun x =>
      { x with outstanding := some (.listenRead, false) }))).tuner.agcA = 576 := by decide

theorem test_tuner_timers :
    (after .tunerSettleExpiry (radio .tuning none .silent)).bus.tunerSlot = some ⟨0x60, [8], 3, false⟩
      ∧ (after .listeningPollExpiry (radio .listening none .silent)).tuner.poll = some 100 := by decide

set_option maxRecDepth 8000 in
/-- R141, R150, R172: in BUS_DOWN the settle expiry at a scan's second-highest channel fails the read, the write of the last
channel and the return tune three times, and the tuner listens. -/
theorem test_scan_ends_in_bus_down :
    let s := ((radio .scanning none .waiting).onTuner fun x => { x with frequency := 107900 }).onBus fun b => { b with state := .busDown }
    let t := after .tunerSettleExpiry s
    (t.tuner.state, t.tuner.frequency, t.tuner.opTag, t.tuner.poll) = (.listening, 98000, none, some 58) := by decide

/-! ## The auxiliary bus (chapter 8) -/

/-- Section 8.10: a held relay, then the rotation to TUNER. -/
theorem test_relay_holds :
    (after (.transactionEnd (.done [])) (busy .relay ⟨0x50, [3], 0, true⟩ up)).bus.hold = some 50
      ∧ (after (.transactionEnd (.done [])) ((busy .relay ⟨0x50, [3], 0, false⟩ up).onBus fun b =>
        { b with tunerSlot := some ⟨0x60, [8], 3, false⟩ })).bus.inProgress = some .tuner := by decide

/-- R165 and R169 with R167: the stop that ends a transaction or a hold stays on record where what waited is granted at once. -/
theorem test_ended_sequence_is_kept :
    let waits (s : State) : State := s.onBus fun b => { b with tunerSlot := some ⟨0x60, [8], 3, false⟩, moves := [.start] }
    let t := after (.transactionEnd (.done [])) (waits (busy .relay ⟨0x50, [3], 0, false⟩ up));
    let h := after .holdTimerExpiry (waits (up.onBus fun b => { b with state := .held, hold := some 50 }));
    t.bus.movesBefore = [.start, .address 0x50 false, .write 3, .stop] ∧ t.bus.moves = [.start]
      ∧ h.bus.movesBefore = [.start, .stop] ∧ h.bus.moves = [.start] := by decide

theorem test_relay : (after (.relay 7 0x50 1 0 [3]) up).bus.state = .active ∧ (after (.relay 7 0x80 1 0 [3]) up).bus = up.bus := by
  decide

theorem test_hold_expiry :
    (after .holdTimerExpiry (up.onBus fun b => { b with state := .held, hold := some 50 })).bus.holdTimeouts = 1 := by decide

theorem test_stuck_and_recovery :
    (after (.stuckDetect .dataLow) (busy .relay ⟨0x50, [3], 0, true⟩ up)).bus.stucks = 1
      ∧ (after (.recoveryEnd ⟨[false, true], false, true, true⟩) (up.onBus fun b => { b with state := .recovering })).bus.state = .idle := by
  decide

theorem test_bus_retry :
    (after .busRetryTimerExpiry (up.onBus fun b => { b with state := .busDown, retry := some 1000 })).bus.retrying = true := by
  decide

theorem test_aux :
    (after (.auxSet 1 1) .reset).bus.fast = true
      ∧ (after (.auxRead 1 1) (up.onBus fun b => { b with nacks := 3 })).bus.nacks = 0 := by decide

/-! ## Witnesses: states and operands that meet the hypotheses of the statements, clause by clause -/

/-- An outbound queue with a number of replies. -/
def replies (n : Nat) (s : State) : State :=
  s.onLink fun l => { l with outbound := List.replicate n ⟨.reply, 0x81, 1, [0]⟩ }

set_option maxRecDepth 8000 in
theorem witness_ReceivedFrameIsItsRequest :
    let c : Instr := .relay 1 0x50 0 0 (List.replicate 236 7);
    c.wf = true ∧ Instr.frame c = some (0x58, 1, [0x50, 0, 0, 236] ++ List.replicate 236 7)
      ∧ Instr.wf (.ident 255) = true ∧ Instr.frame (.ident 255) = some (0x01, 255, [])
      ∧ State.reset.link.assembler = .hunting ∧ State.reset.link.gapDeadline = none := by and_intros <;> decide

set_option maxRecDepth 8000 in
theorem witness_UnusableCharactersAreRejected :
    State.reset.link.assembler = .hunting ∧ State.reset.link.gapDeadline = none
      ∧ (BitVec.ofNat 8 0 + 0x01 + 0x11 + ([] : List Byte).sum + 0xEF : Byte) ≠ 0
      ∧ (List.replicate 240 (0 : Byte)).length ≤ 240
      ∧ (BitVec.ofNat 8 240 + 0x01 + 0x11 + (List.replicate 240 (0 : Byte)).sum + 0 : Byte) ≠ 0
      ∧ 240 < (241 : Byte).toNat ∧ (none : Option Byte) ≠ some 0xC5
      ∧ (State.reset.onLink fun l => { l with assembler := .length }).link.assembler ≠ .hunting
      ∧ (State.reset.onLink fun l => { l with requests := List.replicate 8 ⟨1, 1, []⟩ }).link.requests.length = 8 := by
  and_intros <;> decide

theorem witness_GapExpiryRejectsTheFrame :
    ∀ a ∈ [Assembler.length, .kind 3, .tag 3 0x28, .bodyCheck 3 0x28 9 [1]],
      let s := State.reset.onLink fun l => { l with assembler := a, gapDeadline := some 5 };
      s.nothingDue ∧ s.link.gapDeadline = some 5 ∧ s.link.assembler ≠ .hunting := by decide

theorem witness_RequestsWaitOrAreRefusedByForm :
    (let s := State.reset.onLink fun l => { l with restarting := true };
      s.link.requests.length < 8 ∧ s.link.restarting = true)
    ∧ (placesUsed .reply (replies 8 .reset).link.outbound = 8)
    ∧ (let s := State.reset.onLink fun l => { l with outbound := List.replicate 4 ⟨.completion, 0xE0, 1, []⟩ };
      (0x4A : Byte) ∈ longKinds ∧ completionPlaces s = 4)
    ∧ (replies 7 .reset).serves 255 ∧ (0x00 : Byte) ∉ bodyLengths.map (·.1) ∧ (0x00 : Byte) ≠ 0x58
    ∧ ((0x4A, 1) ∈ bodyLengths ∧ ([] : List Byte).length ≠ 1 ∧ completionPlaces State.reset < 4)
    ∧ (State.reset.servesLong 1 ∧ ([0x50, 0, 0] : List Byte).length < 4
      ∧ ([0x50, 0, 0, 2, 1] : List Byte).length ≠ 4 + (([0x50, 0, 0, 2, 1] : List Byte).getD 3 0).toNat) := by and_intros <;> decide

theorem witness_SentFrameFreesItsPlace :
    (let f : Frame := ⟨.reply, 0x85, 1, [0x00]⟩;
      let s := State.reset.onLink fun l => { l with restarting := true, outbound := [f] };
      s.link.outbound = f :: [] ∧ s.link.restarting = true ∧ f.space = .reply ∧ f.kind = 0x85 ∧ f.body = [0x00])
    ∧ (State.reset.link.outbound = State.resetNotice .power :: [] ∧ State.reset.link.restarting = false
      ∧ (State.resetNotice .power).space = .event ∧ State.reset.link.lost = 0)
    ∧ ((State.reset.onLink fun l => { l with lost := 1 }).link.lost ≠ 0)
    ∧ (let s := (replies 8 .reset).onLink fun l => { l with requests := [⟨0x01, 255, []⟩] };
      s.link.requests = [⟨0x01, 255, []⟩] ∧ s.link.restarting = false ∧ (⟨0x01, 255, []⟩ : Request).tag ≠ 0)
    ∧ ((replies 0 .reset).link.outbound = []) ∧ State.reset.link.requests.head? = none
    ∧ (let s := (replies 7 up).onLink fun l => { l with requests := [⟨0x40, 1, []⟩, ⟨0x01, 2, []⟩] };
      s.link.requests = ⟨0x40, 1, []⟩ :: [⟨0x01, 2, []⟩] ∧ s.link.restarting = false
        ∧ (s.link.outbound.filter fun f => decide (f.space = .reply)).length < 8 ∧ completionPlaces s < 4)
    ∧ (let s := (replies 7 up).onLink fun l => { l with requests := [⟨0x90, 1, []⟩, ⟨0x00, 2, []⟩] };
      ∀ r ∈ s.link.requests, r.kind ∉ bodyLengths.map (·.1) ∧ r.kind ≠ 0x58)
    ∧ (let s := (replies 0 .reset).onLink fun l => { l with mask := 0x7D };
      s.link.mask.getLsbD 1 = false ∧ s.link.mask.getLsbD 6 = true)
    ∧ (∀ n ∈ [15, 16],
      let s := (replies 0 .reset).onLink fun l => { l with outbound := List.replicate n (State.resetNotice .power) };
      s.link.mask.getLsbD 3 = true ∧ (s.link.outbound.filter fun f => decide (f.space = .event)).length = n) := by
  and_intros <;> decide

theorem witness_SoftResetKeepsTheSettings :
    (let s := State.reset.onLink fun l => { l with restarting := true, outbound := [⟨.reply, 0x85, 9, [0x00]⟩] };
      s.link.restarting = true ∧ s.link.outbound = ⟨.reply, 0x85, 9, [0x00]⟩ :: []
        ∧ (∃ i ∈ presentSlots s.render.requested s.protect.zoneRequested, (s.channel i).active.distance = 300)
        ∧ ∀ i ∈ presentSlots s.render.requested s.protect.zoneRequested, (s.channel i).active.distance ≤ 300)
    ∧ State.reset.link.restarting = false ∧ (replies 0 .reset).link.outbound = []
    ∧ (∀ f ∈ [(⟨.event, 0x85, 9, [0x00]⟩ : Frame), ⟨.reply, 0x84, 9, [0x00]⟩, ⟨.reply, 0x85, 9, [0x10]⟩],
        let s := State.reset.onLink fun l => { l with restarting := true, outbound := [f] };
        s.link.outbound = f :: [] ∧ s.link.restarting = true ∧ (f.space ≠ .reply ∨ f.kind ≠ 0x85 ∨ f.body ≠ [0x00])) := by
  and_intros <;> decide

/-- The hypothesis of the statements about short requests alone, with the last free reply place. -/
theorem witness_short_requests : (replies 7 .reset).serves 1 ∧ (replies 7 up).serves 255 := by and_intros <;> decide

theorem witness_LinkRequestsReportAndSet :
    (replies 7 .reset).serves 1 ∧ 128 ≤ (128 : Byte).toNat ∧ (127 : Byte).toNat < 128 ∧ (2 : Byte) ≠ 0 ∧ (2 : Byte) ≠ 1 := by
  and_intros <;> decide

/-- R98: a group that left the start list finished is finished when it joins it again in the same WAKING. -/
theorem test_start_list_remembers :
    let s := (((inState .waking).onProtect fun p => { p with startList := some [(0, false), (1, true)] }).onGroup 1 fun g =>
      { g with needed := true, state := .on })
    let t := leaveStartList 1 s
    t.protect.startList = some [(0, false)] ∧ t.protect.leftFinished = [1] ∧ finishedBefore (turnOff 1 t) 1 = true
      ∧ finishedBefore t 2 = false := by decide

theorem witness_WakeStartsTheGroups :
    (∀ times ∈ [((none : Option Nat), (none : Option Nat)), (none, some 50), (none, some 51), (some 120, some 70), (some 120, none)],
        let late : State := { State.reset with now := 100 };
        let s := late.onProtect fun p =>
          { p with
            spacing := times.1, lastStart := times.2
            groups := p.groups.mapIdx fun i (g : Group) => { g with needed := decide (i.1 < 3) } };
        s.servesLong 1 ∧ s.link.opState = .standby ∧ (s.group 0).needed = true ∧ (s.group 0).state = .off
          ∧ (s.group 2).needed = true ∧ (s.group 2).state = .off ∧ (s.group 3).needed = false
          ∧ ((s.protect.spacing = none ∧ ∀ l ∈ s.protect.lastStart.toList, l + 50 ≤ s.now) ↔ times.1 = none ∧ times.2 ≠ some 51))
    ∧ (let s := State.reset.onGroup 0 fun g => { g with state := .powering };
      s.servesLong 1 ∧ (s.group 0).needed = true ∧ (s.group 0).state = .powering
        ∧ ∀ g, ¬((s.group g).needed = true ∧ (s.group g).state = .off))
    ∧ (∀ due ∈ [true, false],
        let s := (State.reset.onGroup 0 fun g => { g with state := .latched }).onRoute .main fun x => { x with relayoutDue := due };
        s.servesLong 1 ∧ s.link.opState = .standby ∧ (∀ g, (s.group g).needed = true → (s.group g).state = .latched)
          ∧ s.bus.state ≠ .busDown ∧ s.main.relayoutDue = due)
    ∧ (let s := State.reset.onGroup 0 fun g => { g with needed := false };
      s.servesLong 1 ∧ (∀ g, (s.group g).needed = false))
    ∧ (up.servesLong 1 ∧ up.link.opState = .running)
    ∧ (let s := (inState .waking).onProtect fun p => { p with startList := some [(0, false)] };
      s.servesLong 1 ∧ s.link.opState = .waking)
    ∧ (let s := (routed .fadingOut .silent (some .standby)).onLink fun l => { l with opState := .quieting };
      s.servesLong 1 ∧ s.link.opState = .quieting) := by and_intros <;> decide

theorem witness_StandbyQuietsThePart :
    (let s := routed .playing .silent none;
      s.servesLong 1 ∧ s.link.opState = .running ∧ s.measure.run = none ∧ (s.route .main).state = .playing)
    ∧ (∀ st ∈ [TunerState.seeking, .scanning],
        let s := radio st none .waiting;
        s.servesLong 1 ∧ s.link.opState = .running ∧ s.measure.run = none ∧ (s.route .main).state = .waiting
          ∧ s.tuner.state = st ∧ s.tuner.opTag = some 7 ∧ s.tuner.scan ≠ none)
    ∧ (∀ o ∈ [TunerOp.seek true, .scan],
        let s := radio .hushing (some o) .fadingOut;
        s.servesLong 1 ∧ s.tuner.state = .hushing ∧ s.tuner.op = some o ∧ s.tuner.opTag = some 7 ∧ s.measure.run = none)
    ∧ (∀ m ∈ [RouteState.measure, .fadingOut],
        let s := measuring (run0 (if m = .measure then .probing else .preparing) [1] none) m;
        s.servesLong 1 ∧ s.link.opState = .running ∧ s.measure.run.map (·.state) ≠ some .restoring ∧ s.measure.run ≠ none
          ∧ s.main.relayoutDue = false ∧ s.main.state = m ∧ s.main.pending.getD s.main.selected ≠ none)
    ∧ (let s := (measuring (run0 .probing [1] none) .measure).onRoute .main fun x => { x with selected := none };
      s.servesLong 1 ∧ s.main.state = .measure ∧ s.main.pending.getD s.main.selected = none ∧ s.main.relayoutDue = false)
    ∧ (up.servesLong 1 ∧ up.link.opState = .running ∧ up.main.state = .silent ∧ up.zone.state = .silent)
    ∧ (let s := ((inState .waking).onProtect fun p => { p with startList := some [(0, false)] }).onLink fun l =>
        { l with wakeTag := some 7 };
      s.servesLong 1 ∧ s.link.opState = .waking ∧ s.main.state = .silent ∧ s.link.wakeTag = some 7)
    ∧ (State.reset.servesLong 1 ∧ State.reset.link.opState = .standby)
    ∧ (let s := (routed .fadingOut .silent (some .standby)).onLink fun l => { l with opState := .quieting };
      s.servesLong 1 ∧ s.link.opState = .quieting) := by and_intros <;> decide

theorem witness_RestartAndQuietTimer :
    (State.reset.onLink fun l => { l with restarting := true }).link.restarting = true
    ∧ (let s := (routed .fadingOut .waiting (some .standby)).onLink fun l =>
        { l with opState := .quieting, quietDeadline := some 250, standbyTag := some 3 };
      s.link.opState = .quieting ∧ s.link.quietDeadline = some 250 ∧ s.main.state ≠ .measure ∧ s.zone.state ≠ .measure
        ∧ s.tuner.state ≠ .hushing ∧ s.link.standbyTag = some 3)
    ∧ State.reset.link.opState ≠ .quieting := by and_intros <;> decide

theorem witness_PortReadAndTrims :
    State.reset.serves 1 ∧ (1 : Byte).toNat = (0 : Fin 10).1 + 1 ∧ (10 : Byte).toNat = (9 : Fin 10).1 + 1 ∧ 6 ≤ (6 : Fin 10).1
      ∧ (5 : Fin 10).1 < 6 ∧ 10 < (11 : Byte).toNat ∧ (2 : Byte) ≠ 0 ∧ (2 : Byte) ≠ 1 := by and_intros <;> decide

theorem witness_PortSetStartsAndStops :
    (State.reset.serves 1 ∧ (State.reset.port 0).enabled ≠ true ∧ State.reset.portUnused 0 ∧ State.reset.portUnused 9
      ∧ (State.reset.port 0).lock ≠ .measuring ∧ (State.reset.port 9).enabled = false)
    ∧ (let s := routed .playing .silent none;
      s.serves 1 ∧ ¬s.portUnused 0 ∧ (s.onPort 0 fun x => { x with enabled := true }).portUnused 1)
    ∧ (∀ m ∈ [RouteState.playing, .fadingOut, .waiting],
      let s := onA1 .locked (routed m .silent (if m = .fadingOut then some .switch else none));
      s.serves 1 ∧ (s.port 6).enabled = true ∧ (s.port 6).lock = .locked ∧ s.tuner.state ≠ .hushing ∧ (s.route .main).state = m
        ∧ (s.route .main).selected = some 0 ∧ (s.source 0).port = 6)
    ∧ (let s := onA1 .off (routed .waiting .silent none);
      s.serves 1 ∧ (s.port 6).enabled = false ∧ (s.port 6).lock ≠ .locked ∧ s.main.relayoutDue = false ∧ s.tuner.state ≠ .hushing
        ∧ (s.route .main).state = .waiting ∧ (s.route .main).selected = some 0 ∧ (s.source 0).port = 6) := by and_intros <;> decide

theorem witness_WindowClassifiesThePort :
    (let s := State.reset.onPort 3 fun x => { x with enabled := true, lock := .measuring };
      s.nothingDue ∧ (3 : Fin 10).1 < 6 ∧ (s.port 3).lock = .measuring ∧ s.portUnused 3)
    ∧ (let s := State.reset.onPort 5 fun x => { x with enabled := true, lock := .unsupported, blockSeen := true };
      s.nothingDue ∧ (5 : Fin 10).1 < 6 ∧ (s.port 5).lock = .unsupported)
    ∧ (let s := (routed .waiting .silent none).onPort 0 fun x => { x with enabled := true, lock := .measuring };
      s.nothingDue ∧ (s.port 0).lock = .measuring ∧ s.tuner.state ≠ .hushing ∧ s.main.relayoutDue = false
        ∧ (s.route .main).state = .waiting ∧ (s.route .main).selected = some 0 ∧ (s.source 0).port = 0
        ∧ ((after (.measurementWindowComplete 0 16384 16384 4096) s).port 0).lock = .locked
        ∧ ((after (.measurementWindowComplete 0 1 1 4096) s).port 0).lock ≠ .locked)
    ∧ 500 * ((32768 + 65 : Int) - (32768 : Nat)).natAbs ≤ 32768 ∧ ¬500 * ((32768 + 66 : Int) - (32768 : Nat)).natAbs ≤ 32768
    ∧ 2 * 32770 ≤ 5 * 13108 ∧ 5 * 19662 ≤ 3 * 32770 ∧ 8 * 4096 ≤ 32768
    ∧ ¬(2 * 32770 ≤ 5 * 13107 ∧ 5 * 13107 ≤ 3 * 32770) ∧ ¬8 * 4097 ≤ 32768 ∧ (4095 + 32) / 64 = 64
    ∧ (4128 + 32) / 64 = 65 := by and_intros <;> decide

theorem witness_WindowKeepsOrBreaksTheLock :
    (let s := State.reset.onPort 0 fun x =>
        { x with enabled := true, lock := .locked, rate := .r192, format := .twoChannel, channels := 2 };
      s.nothingDue ∧ (s.port 0).lock = .locked ∧ (s.port 0).rate = .r192 ∧ s.portUnused 0
        ∧ 200 * ((8232 : Int) - (8192 : Nat)).natAbs ≤ 8192 ∧ ¬200 * ((8233 : Int) - (8192 : Nat)).natAbs ≤ 8192
        ∧ laneFormat 8232 4116 64 = ((s.port 0).format, (s.port 0).channels))
    ∧ (let s := (routed .playing .silent none).onPort 0 fun x =>
        { x with enabled := true, lock := .locked, rate := .r48, format := .twoChannel, channels := 2 };
      s.nothingDue ∧ (s.port 0).lock = .locked ∧ (s.port 0).rate = .r48 ∧ s.tuner.state ≠ .hushing
        ∧ (s.route .main).state = .playing ∧ (s.route .main).selected = some 0 ∧ (s.source 0).port = 0
        ∧ ((after (.measurementWindowComplete 0 1 1 4096) s).port 0).lock ≠ .locked
        ∧ ((after (.measurementWindowComplete 0 16384 16384 4096) s).port 0).lock = .locked)
    ∧ State.reset.nothingDue ∧ (State.reset.port 0).lock = .off := by and_intros <;> decide

theorem witness_ClockAndStatusBlockEvents :
    (let s := State.reset.onPort 5 fun x => { x with enabled := true, lock := .locked };
      s.nothingDue ∧ (5 : Fin 10).1 < 6 ∧ (s.port 5).lock = .locked ∧ s.portUnused 5 ∧ (s.port 5).nonAudio ≠ true)
    ∧ (let s := State.reset.onPort 0 fun x => { x with lock := .noClockHigh };
      s.nothingDue ∧ (s.port 0).lock = .noClockHigh)
    ∧ (State.reset.nothingDue ∧ (State.reset.port 4).lock = .off ∧ (State.reset.port 0).lock ≠ .noClockLow)
    ∧ (let s := (routed .playing .silent none).setSource 0 { State.resetSource with port := 4 };
      (s.route .main).selected = some 0 ∧ (s.source 0).port = 4 ∧ (s.route .main).state = .playing ∧ s.tuner.state ≠ .hushing)
    ∧ (∀ m ∈ [RouteState.waiting, .playing, .fadingOut],
      let s := ((routed m .silent (if m = .fadingOut then some .hold else none)).setSource 0
          { State.resetSource with port := 4, enabled := true }).onPort 4 fun x =>
        { x with lock := .locked, nonAudio := decide (m = .waiting), channels := 2 };
      s.nothingDue ∧ (s.port 4).lock = .locked ∧ (s.port 4).nonAudio = decide (m = .waiting) ∧ (s.route .main).state = m
        ∧ (s.route .main).selected = some 0 ∧ (s.source 0).port = 4 ∧ s.tuner.state ≠ .hushing ∧ s.main.relayoutDue = false) := by
  and_intros <;> decide

set_option maxRecDepth 8000 in
theorem witness_AdcSamplesAreTrimmed :
    let x : Port := { State.resetPort with lock := .locked, channels := 2 };
    let at0 (n : Nat) (st : ConvState) : State := (up.onPort 6 fun _ => x).onConv .main fun c =>
      { c with state := st, input := some ⟨6, 0, 2, false⟩, fifo := List.replicate n [] };
    (State.reset.nothingDue ∧ (State.reset.port 6).lock ≠ .locked)
      ∧ (∀ n ∈ [126, 127], (at0 n .filling).nothingDue ∧ ((at0 n .filling).port 6).lock = .locked
          ∧ ((at0 n .filling).route .main).conv.input = some ⟨6, 0, 2, false⟩ ∧ ((at0 n .filling).route .main).conv.fifo.length = n)
      ∧ ((at0 128 .running).route .main).conv.state = .running ∧ ((at0 0 .suspended).route .main).conv.state = .suspended
      ∧ ((at0 0 .idle).route .zone).conv.input.map (·.port) ≠ some 6
      ∧ (let s := (up.onPort 9 fun _ => x);
        s.nothingDue ∧ (s.port 9).lock = .locked ∧ s.measure.run.bind (·.probe) = none)
      ∧ (∀ p ∈ [{ probe0 .ambient with frame := 4799 }, { probe0 .listen with frame := 2879 },
            { probe0 .listen with frame := 3839, arrival := some 2879 }],
          let s := (measuring (run0 .probing [1] (some p)) .measure).onPort 9 fun _ => x;
          s.nothingDue ∧ (s.port 9).lock = .locked ∧ s.measure.run = some (run0 .probing [1] (some p))) := by and_intros <;> decide

set_option maxRecDepth 8000 in
theorem witness_ConvertersFillAndSlip :
    let x : Port := { State.resetPort with lock := .locked, channels := 2 };
    let at0 (n : Nat) (st : ConvState) : State := (up.onPort 0 fun _ => x).onConv .zone fun c =>
      { c with state := st, input := some ⟨0, 0, 2, false⟩, fifo := List.replicate n [] };
    (at0 127 .filling).nothingDue ∧ ((at0 127 .filling).route .zone).conv.input = some ⟨0, 0, 2, false⟩
      ∧ ((at0 127 .filling).route .main).conv.input.map (·.port) ≠ some 0 ∧ ((at0 127 .filling).port 0).lock = .locked
      ∧ ((at0 127 .filling).route .zone).conv.fifo.length + 1 = 128
      ∧ ((at0 255 .running).route .zone).conv.fifo.length + 1 = 256 ∧ ((at0 255 .running).route .zone).conv.state = .running
      ∧ ((at0 0 .idle).route .zone).conv.state ≠ .filling := by and_intros <;> decide

theorem witness_SourceSetStoresTheRecord :
    let raw : RawSource := ⟨1, 4, 0, 8, [1, 2, 3, 14, 6, 7, 8, 9], 120, 250, 0, 1, 3⟩;
    State.reset.serves 1 ∧ raw.layout.length = 8 ∧ (12 : Byte).toNat = (11 : Fin 12).1 + 1 ∧ raw.port.toNat = (3 : Fin 10).1 + 1
      ∧ raw.port ≠ 10 ∧ raw.first.toNat + raw.count.toNat ≤ 8 ∧ raw.layout.Nodup
      ∧ (∀ l ∈ raw.layout, 1 ≤ l.toNat ∧ l.toNat ≤ 14 ∧ l ≠ 4 ∧ l ≠ 5) ∧ raw.mode.toNat ≤ 3
      ∧ [Label.fl, .fr, .c, .lfe, .sl, .sr, .bl, .br].map labelCode = raw.layout ∧ modeCode .matrix = raw.mode
      ∧ (let s := routed .playing .waiting none;
        s.serves 1 ∧ (s.route .main).selected = some 0 ∧ s.tuner.state ≠ .hushing ∧ (s.route .zone).state = .waiting)
      ∧ (routed .fadingOut .silent (some .hold)).serves 1 ∧ 10 < (11 : Byte).toNat ∧ 12 < (13 : Byte).toNat := by
  and_intros <;> decide

theorem witness_RecordReadsChangeNothing :
    State.reset.serves 1 ∧ (12 : Byte).toNat = (11 : Fin 12).1 + 1 ∧ 12 < (13 : Byte).toNat ∧ (1 : Byte) = routeCode .zone
      ∧ 2 ≤ (2 : Byte).toNat := by and_intros <;> decide

theorem witness_SelectActsByTheRouteState :
    (∀ s ∈ [routed .playing .waiting none, routed .fadingOut .silent (some .hold), (routed .silent .fadingOut (some .standby)),
          (routed .silent .silent none).onLink fun l => { l with opState := .standby },
          (routed .fadingOut .silent (some .standby)).onLink fun l => { l with opState := .quieting }],
        s.serves 1 ∧ s.measure.run = none ∧ (s.route .main).selected ≠ some 11)
      ∧ sourceNumber (some 11) = 12 ∧ sourceNumber none = 0 ∧ routeCode .main = 0
      ∧ (measuring (run0 .probing [1] none) .measure).serves 1
      ∧ (measuring (run0 .probing [1] none) .measure).measure.run ≠ none ∧ 2 ≤ (2 : Byte).toNat ∧ 12 < (13 : Byte).toNat := by
  and_intros <;> decide

theorem witness_SelectAttachesTheSource :
    let s := (up.setSource 11 { State.resetSource with enabled := true, port := 3, count := 8 }).onPort 3 fun x =>
      { x with lock := .locked, period := 32770, channels := 8 };
    s.serves 1 ∧ s.link.opState = .running ∧ (s.route .main).state = .silent ∧ s.measure.run = none ∧ s.main.relayoutDue = false
      ∧ (s.route .zone).state = .silent ∧ (s.source 11).port.1 < 6 ∧ (s.port 3).period ≠ 0
      ∧ (0 : Fin 12) ∈ s.render.present ∧ (s.render.inForce.slots.get 0).position = .fl
      ∧ (∀ m ∈ s.render.present, (s.render.inForce.slots.get m).position = .fl → m = 0)
      ∧ (s.source 11).layout[0]? = some .fl := by and_intros <;> decide

theorem witness_FadeOutCompletionActsOnThePurpose :
    (∀ p ∈ [some Purpose.standby, some .measure, some .switch, some .relayout, some .hold],
        let s := (routed .fadingOut .fadingOut p).onChannel 0 fun c => { c with current := -900 };
        s.nothingDue ∧ (s.route .main).state = .fadingOut ∧ (∀ i ∈ s.render.present, (s.channel i).current ≤ -900)
          ∧ s.gain.zoneCurrent ≤ -900 ∧ s.gain.zoneAssigned = false ∧ s.tuner.state ≠ .hushing ∧ s.main.relayoutDue = false
          ∧ s.main.purpose = p)
      ∧ (let s := (routed .fadingOut .silent none).onChannel 0 fun c => { c with current := -899 };
        s.nothingDue ∧ (0 : Fin 12) ∈ s.render.present ∧ ¬(s.channel 0).current ≤ -900) := by and_intros <;> decide

theorem witness_RelayoutPointPutsTheLayoutInForce :
    (∀ o ∈ [OpState.running, .standby],
      let s := ((routed .waiting .silent none).onLink fun l => { l with opState := o }).onRoute .main fun x =>
        { x with relayoutDue := true };
      s.nothingDue ∧ s.main.relayoutDue = true ∧ s.main.state = .waiting ∧ s.link.opState ≠ .waking ∧ s.link.opState = o)
      ∧ (∀ l ∈ [[((0 : Fin 6), false), (2, true)], [(2, true), (1, false)]],
        let s := (((inState .waking).onRoute .main fun x => { x with relayoutDue := true }).onProtect fun p =>
            { p with startList := some l, leftFinished := [1] }).onGroup 2 fun x => { x with needed := true, state := .on, driven := true };
        s.nothingDue ∧ s.main.relayoutDue = true ∧ s.main.state = .silent ∧ s.link.opState = .waking ∧ s.protect.startList = some l)
      ∧ State.reset.nothingDue ∧ State.reset.main.relayoutDue = false
      ∧ (∀ p ∈ [Purpose.switch, .relayout, .hold, .standby, .measure],
        let s := ((routed .fadingOut .silent (some p)).onRoute .main fun x => { x with relayoutDue := true }).onGain fun g =>
          { g with channels := g.channels.mapIdx fun _ c => { c with current := -900 } };
        s.nothingDue ∧ s.main.relayoutDue = true ∧ s.main.state = .fadingOut ∧ s.main.purpose = some p
          ∧ (∀ i ∈ s.render.present, (s.channel i).current ≤ -900) ∧ s.link.opState ≠ .waking ∧ s.tuner.state ≠ .hushing
          ∧ s.main.selected = some 0)
      ∧ (∀ o ∈ [OpState.running, .quieting],
        let s := ((measuring (run0 .probing [1] none) .measure).onLink fun l => { l with opState := o }).onRoute .main fun x =>
          { x with relayoutDue := true };
        s.serves 1 ∧ s.main.relayoutDue = true ∧ s.main.state = .measure ∧ s.measure.run.map (·.state) = some .probing
          ∧ s.tuner.state ≠ .hushing ∧ s.link.opState = o ∧ s.main.pending.getD s.main.selected = some 0)
      ∧ (up.group 0).needed = true ∧ (up.group 0).state = .on ∧ (up.group 1).needed = false ∧ (State.reset.group 1).state = .off := by
  and_intros <;> decide

set_option maxRecDepth 8000 in
theorem witness_LayoutAndZoneRequests :
    let raw : Fin 12 → RawSlot := fun i => if i = 0 then ⟨1, 0, 80⟩ else if i = 1 then ⟨2, 0, 80⟩ else ⟨0, 0, 0⟩;
    up.serves 1 ∧ up.measure.run = none ∧ (raw 0).position = 1 ∧ (raw 1).position = 2
      ∧ (∀ i, (raw i).position.toNat ≤ 13 ∧ ((raw i).position = 1 → i = 0) ∧ ((raw i).position = 2 → i = 1))
      ∧ (∀ i j, (raw i).position = (raw j).position → i = j ∨ (raw i).position = 0)
      ∧ (∀ i, (raw i).position = 0 ∨ (raw i).size.toNat ≤ 1)
      ∧ (∀ i, labelCode (State.resetLayout.slots.get i).position = (raw i).position)
      ∧ (∀ i, (State.resetLayout.slots.get i).bass = if i.1 < 2 then some (.large, 80) else none)
      ∧ (measuring (run0 .probing [1] none) .measure).serves 1 ∧ (routed .playing .silent none).serves 1 := by and_intros <;> decide

theorem witness_RenderModeTakesEffect :
    State.reset.serves 1 ∧ 5 ≤ (5 : Byte).toNat ∧ modeCode .matrix = 3
      ∧ (let s := State.reset.onRender fun r => { r with modeDue := true };
        s.nothingDue ∧ s.render.modeDue = true ∧ s.main.conv.input = none)
      ∧ (let s := ((routed .playing .silent none).onRender fun r =>
          { r with modeDue := true, attached := some State.resetSource }).onConv .main fun c =>
          { c with input := some ⟨0, 0, 2, false⟩ };
        s.nothingDue ∧ s.main.conv.input ≠ none ∧ s.render.attached = some State.resetSource ∧ 0 ∈ s.render.present ∧ 1 ∈ s.render.present
          ∧ (s.render.inForce.slots.get 0).position = .fl ∧ (s.render.inForce.slots.get 1).position = .fr
          ∧ (∀ i ∈ s.render.present, (s.render.inForce.slots.get i).position ≠ .unassigned
              ∧ ∀ j ∈ s.render.present, (s.render.inForce.slots.get i).position = (s.render.inForce.slots.get j).position → i = j)
          ∧ State.resetSource.layout[1]? = some .fr ∧ State.resetSource.count = 2)
      ∧ (∀ f ∈ [([] : List (List Int)), [[1, 2, 3, 4, 5, 6, 7, 8]], [[1, 2, 3, 4, 5, 6, 7, 8], [0, 0, 0, 0, 0, 0, 0, -9]]],
          let s := ((routed .playing .silent none).onRoute .main fun x => { x with effMode := some .matrix }).onConv .main fun c =>
            { c with state := .running, input := some ⟨0, 0, 2, false⟩, fifo := f, phase := 8388608, step := 16777216 };
          s.nothingDue ∧ s.measure.run = none ∧ s.gain.burst = none ∧ s.render.modeDue = false ∧ s.main.relayoutDue = false
            ∧ s.main.state ≠ .fadingOut ∧ s.zone.state ≠ .fadingOut
            ∧ (∀ i, (s.channel i).marked = false ∧ (s.channel i).redelay = false ∧ (s.channel i).early = [])
            ∧ s.gain.zoneEarly = [] ∧ s.main.conv.state = .running ∧ (∀ a ∈ s.main.conv.fifo, a.length = 8)
            ∧ s.main.conv.input ≠ none ∧ s.main.effMode = some .matrix ∧ s.zone.conv.state ≠ .running)
      ∧ (∀ f ∈ [([] : List (List Int)), [[1, 2, 3, 4, 5, 6, 7, 8], [9, 9, 9, 9, 9, 9, 9, 9]]],
          let s := (routed .playing .silent none).onConv .main fun c =>
            { c with state := .running, input := some ⟨6, 0, 2, false⟩, given := f };
          s.nothingDue ∧ s.main.conv.state = .running ∧ (∃ i, s.main.conv.input = some i ∧ 6 ≤ i.port.1) ∧ s.main.conv.given = f)
      ∧ State.reset.nothingDue ∧ State.reset.render.modeDue = false := by and_intros <;> decide

theorem witness_BoundaryMovesTheLevels :
    let s := routed .playing .playing none;
    s.nothingDue ∧ s.measure.run = none ∧ s.gain.burst = none ∧ s.render.modeDue = false ∧ s.main.relayoutDue = false
      ∧ s.main.state ≠ .fadingOut ∧ s.zone.state ≠ .fadingOut
      ∧ (∀ i, (s.channel i).marked = false ∧ (s.channel i).redelay = false) ∧ (s.channel 0).coef = 0
      ∧ (∀ e ∈ (s.channel 0).early, e.1 < 1) ∧ (∀ e ∈ [((47 : Nat), (10321 : Nat))], e.1 < 48)
      ∧ (s.channel 0).committed = 0 := by and_intros <;> decide

theorem witness_LoadAndRedelay :
    (let s := State.reset.onChannel 0 fun c => { c with marked := true, pending := ⟨1800, 0, false⟩ };
      s.nothingDue ∧ 0 ∈ s.render.present ∧ (s.channel 0).marked = true
        ∧ (s.channel 0).pending.distance ≠ (s.channel 0).active.distance
        ∧ ∀ i ∈ s.render.present, (if (s.channel i).marked then (s.channel i).pending else (s.channel i).active).distance ≤ 1800)
      ∧ (State.reset.nothingDue ∧ ∀ i, (State.reset.channel i).marked = false)
      ∧ (let s := State.reset.onChannel 0 fun c => { c with redelay := true, current := -900 };
        s.nothingDue ∧ (s.channel 0).redelay = true ∧ ∀ i, (s.channel i).redelay = true → (s.channel i).current ≤ -900) := by
  and_intros <;> decide

theorem witness_VolumeAndMuteRequests : State.reset.serves 1 ∧ 2 ≤ (2 : Byte).toNat := by and_intros <;> decide

theorem witness_ChannelSetAndLoad :
    up.serves 1 ∧ 12 < (13 : Byte).toNat ∧ (12 : Byte).toNat = (11 : Fin 12).1 + 1 ∧ up.measure.run = none
      ∧ (measuring (run0 .probing [1] none) .measure).serves 1
      ∧ (measuring (run0 .probing [1] none) .measure).measure.run ≠ none
      ∧ 4096 ≤ (4096 : Word16).toNat ∧ (4096 : Word16) ≠ 0xFFFF ∧ (4095 : Word16).toNat < 4096 := by and_intros <;> decide

theorem witness_RampSteerAndLipsync :
    State.reset.serves 1 ∧ min (0 : Word16).toNat 250 = State.reset.gain.userLip
      ∧ min (251 : Word16).toNat 250 ≠ State.reset.gain.userLip := by and_intros <;> decide

theorem witness_EncoderCountsAndSteps :
    State.reset.serves 1 ∧ State.reset.nothingDue ∧ State.reset.gain.encoder.enabled = false
      ∧ (let s := State.reset.onGain fun g => { g with encoder := ⟨true, false, true, 3, 65535⟩ };
        s.nothingDue ∧ s.gain.encoder.enabled = true) := by and_intros <;> decide

theorem witness_DecibelArithmeticIsRounded :
    (-899 : Int) = 60 * -15 + ((1 : Nat) : Int) ∧ (-900 : Int) < -899
      ∧ (2 * 1048576 - 1) ^ 60 < 2 ^ (1260 + 0) ∧ 2 ^ (1260 + 0) < (2 * 1048576 + 1) ^ 60 := by and_intros <;> decide +kernel

theorem witness_ProtectSetStoresTheSettings :
    let address : Fin 6 → Byte := fun g => if g = 2 then 127 else 0xFF;
    up.serves 1 ∧ List.replicate 6 (0xFF : Byte) = List.ofFn (fun _ : Fin 6 => 0xFF)
      ∧ (∀ g, address g = 0xFF ∨ ((address g).toNat < 128 ∧ (address g).setWidth 7 ≠ up.tuner.settings.address))
      ∧ (∀ g, ¬((up.group g).state = .faultWait ∧ (up.group g).cause = .thermal))
      ∧ 128 ≤ (128 : Byte).toNat
      ∧ (let s := up.onGroup 2 fun g => { g with state := .faultWait, cause := .thermal, sensor := some 0x48 };
        s.serves 1 ∧ (s.group 2).state = .faultWait ∧ (s.group 2).cause = .thermal ∧ (s.group 2).sensor ≠ none) := by
  and_intros <;> decide

theorem witness_ProtectReadAndFaultClear :
    (∀ o ∈ [OpState.standby, .running],
        let s := (inState o).onGroup 0 fun g => { g with state := .latched, cause := .line };
        s.serves 1 ∧ (s.group 0).state = .latched ∧ (s.group 0).needed = true ∧ s.link.opState = o
          ∧ (s.group 1).state ≠ .latched)
      ∧ (63 : Byte).toNat < 64 ∧ 64 ≤ (64 : Byte).toNat ∧ (1 : Byte).getLsbD 0 = true ∧ (1 : Byte).getLsbD 1 = false := by
  and_intros <;> decide

theorem witness_StartQueueAndSettle :
    (State.reset.protect.spacing = none)
      ∧ (∀ q ∈ [([] : List (Fin 6)), [4], [4, 5]],
          let s := (inState .running).onProtect fun p => { p with spacing := some 50, startQueue := q };
          s.nothingDue ∧ s.protect.spacing = some 50 ∧ s.protect.startQueue = q ∧ (s.group 4).state = .off)
      ∧ (State.reset.group 0).state ≠ .powering
      ∧ (let s := up.onGroup 5 fun g => { g with state := .powering, settle := some 200 };
        s.nothingDue ∧ s.link.opState ≠ .waking ∧ s.measure.run = none ∧ (s.group 5).state = .powering
          ∧ (s.group 5).settle = some 200)
      ∧ (let s := ((inState .waking).onLink fun l => { l with wakeTag := some 7 }).onProtect fun p =>
          { p with startList := some [(0, false), (1, true)] };
        let s := s.onGroup 0 fun g => { g with state := .powering, settle := some 200 };
        s.nothingDue ∧ s.link.opState = .waking ∧ (s.group 0).settle = some 200
          ∧ (∀ e ∈ [((0 : Fin 6), false), (1, true)], e.1 = 0 ∨ e.2 = true) ∧ s.link.wakeTag = some 7
          ∧ s.main.relayoutDue = false ∧ s.bus.state ≠ .busDown) := by and_intros <;> decide

theorem witness_ReadbackFindsALineFault :
    (State.reset.group 0).readback = []
      ∧ (let s := up.onGroup 0 fun g => { g with readback := [1] };
        s.nothingDue ∧ (s.group 0).readback = 1 :: [] ∧ (s.group 0).state ≠ .latched ∧ false ≠ (s.group 0).driven
          ∧ s.link.opState ≠ .waking)
      ∧ (let s := up.onGroup 0 fun g => { g with readback := [1], state := .latched };
        s.nothingDue ∧ (s.group 0).state = .latched) := by and_intros <;> decide

theorem witness_FaultsWaitRetryAndLatch :
    (State.reset.group 0).state = .off
      ∧ (∀ n ∈ [1, 2],
          let s := up.onGroup 0 fun g => { g with faultCount := n, windowStart := some 0, window := some 60000 };
          s.nothingDue ∧ s.link.opState ≠ .waking ∧ (s.group 0).state = .on ∧ (s.group 0).debounceEnd ≤ s.now
            ∧ (s.group 0).window = some 60000)
      ∧ (∀ o ∈ [OpState.running, .standby],
          let s := (inState o).onGroup 0 fun g => { g with state := .faultWait, retry := some 2000, cause := .current };
          s.nothingDue ∧ (s.group 0).state = .faultWait ∧ (s.group 0).retry = some 2000 ∧ (s.group 0).cause ≠ .thermal
            ∧ s.link.opState = o ∧ s.protect.spacing = none ∧ s.protect.lastStart = none)
      ∧ (let s := (up.onGroup 0 fun g => { g with state := .faultWait, retry := some 2000, cause := .thermal }).onProtect fun p =>
          { p with spacing := some 50 };
        s.nothingDue ∧ (s.group 0).cause = .thermal ∧ (s.group 0).coolSeen = false ∧ s.protect.spacing ≠ none) := by
  and_intros <;> decide

set_option maxRecDepth 8000 in
theorem witness_PollTickReadsTheNextSensor :
    State.reset.protect.tick = none
      ∧ (∀ st ∈ [BusState.idle, .busDown],
          let s := ((up.onGroup 5 fun g => { g with sensor := some 0x48 }).onProtect fun p => { p with tick := some 100 }).onBus fun b =>
            { b with state := st };
          s.nothingDue ∧ s.protect.tick = some 100 ∧ (∀ g : Fin 6, (0x3F : BitVec 6).getLsbD g.1 = (s.group g).driven)
            ∧ s.bus.protectSlot = none ∧ (s.group 5).sensor = some 0x48 ∧ (∀ h, h ≠ 5 → (s.group h).sensor = none)
            ∧ s.bus.state = st)
      ∧ (∀ a ∈ [none, some (0x48 : BitVec 7)],
          let s := ((up.onGroup 3 fun g => { g with sensor := a }).onProtect fun p => { p with tick := some 100 }).onGroup 1 fun g =>
            { g with state := .latched, driven := false };
          s.nothingDue ∧ s.protect.tick = some 100 ∧ s.bus.state ≠ .busDown ∧ s.link.opState ≠ .waking ∧ s.bus.protectSlot = none
            ∧ (s.group 3).sensor = a ∧ (s.group 5).state ≠ .latched ∧ (0x1F : BitVec 6).getLsbD 5 ≠ (s.group 5).driven
            ∧ (s.group 1).state = .latched ∧ (0x1F : BitVec 6).getLsbD 1 ≠ (s.group 1).driven)
      ∧ (let s := up.onProtect fun p => { p with tick := some 100 };
        s.nothingDue ∧ ∀ g, (s.group g).sensor = none) := by and_intros <;> decide

theorem witness_PollOutcomesActOnTheGroup :
    (∀ st ∈ [GroupState.on, .powering, .off, .latched],
        let s := ((busy .protect ⟨0x48, [], 2, false⟩ up).onProtect fun p => { p with polling := some 2 }).onGroup 2 fun g =>
          { g with state := st, failRun := 2 };
        s.nothingDue ∧ s.bus.state = .active ∧ s.bus.inProgress = some .protect
          ∧ s.bus.protectSlot = some ⟨0x48, [], 2, false⟩ ∧ s.protect.polling = some 2 ∧ s.link.opState ≠ .waking
          ∧ (s.group 2).state = st)
      ∧ (∀ f ∈ [((none : Option Nat), (none : Option Nat)), (some 2000, none), (none, some 50)],
        let s := ((busy .protect ⟨0x48, [], 2, false⟩ up).onProtect fun p => { p with polling := some 2, spacing := f.2 }).onGroup 2
          fun g => { g with state := .faultWait, cause := .thermal, retry := f.1 };
        s.nothingDue ∧ s.bus.inProgress = some .protect ∧ s.protect.polling = some 2 ∧ s.link.opState = .running
          ∧ (s.group 2).state = .faultWait ∧ (s.group 2).cause = .thermal ∧ (s.group 2).retry = f.1 ∧ s.protect.spacing = f.2
          ∧ s.protect.lastStart = none)
      ∧ ((0x4A : Byte) ++ (0xFF : Byte) : Word16).toInt / 256 = 74 ∧ (74 : Int) < (80 : Nat) - (5 : Nat)
      ∧ ((0x4B : Byte) ++ (0 : Byte) : Word16).toInt / 256 = 75 ∧ ¬(75 : Int) < (80 : Nat) - (5 : Nat)
      ∧ ((0x64 : Byte) ++ (0 : Byte) : Word16).toInt / 256 = 100
      ∧ ((0x63 : Byte) ++ (0xFF : Byte) : Word16).toInt / 256 = 99 := by and_intros <;> decide

theorem witness_MeasureStartsARun :
    (∀ m ∈ [RouteState.playing, .fadingOut, .silent, .waiting],
        let s := (routed m .silent (if m = .fadingOut then some .switch else none)).onPort 9 fun x => { x with lock := .locked };
        s.servesLong 1 ∧ s.link.opState = .running ∧ (s.port 9).lock = .locked ∧ s.measure.run = none ∧ s.main.state = m
          ∧ (allSlots.filter fun i => (0x003 : Word16).getLsbD i.1 && decide (i ∈ s.render.present)) ≠ [])
      ∧ (12 : Byte) = number (11 : Fin 12) ∧ (2 : Byte) = applyCode .stageAndLoad ∧ (4 : Byte).toNat ≤ 4
      ∧ up.servesLong 1 ∧ (up.port 9).lock ≠ .locked
      ∧ (let s := (measuring (run0 .probing [1] none) .measure).onPort 9 fun x => { x with lock := .locked };
        s.servesLong 1 ∧ s.measure.run ≠ none) := by and_intros <;> decide

theorem witness_SlotTurnAndBurst :
    (let s := measuring (run0 .probing [0, 2] none) .measure;
      s.nothingDue ∧ s.measure.run = some (run0 .probing [0, 2] none) ∧ (s.group (groupOf 0)).state = .on)
      ∧ (let s := (measuring (run0 .probing [0, 2] none) .measure).onGroup 0 fun g => { g with state := .latched };
        s.nothingDue ∧ (s.group (groupOf 0)).state ≠ .on ∧ (s.group (groupOf 2)).state = .on)
      ∧ (∀ ph ∈ [Phase.ambient, .listen],
          let s := measuring (run0 .probing [1] (some (probe0 ph))) .measure;
          s.nothingDue ∧ s.measure.run = some (run0 .probing [1] (some (probe0 ph))) ∧ (probe0 ph).phase = ph ∧ s.gain.burst = none)
      ∧ (let b : Burst := ⟨0, -200, 0xACE1, 0⟩;
        let s := (measuring (run0 .probing [1] (some (probe0 .listen))) .measure).onGain fun g => { g with burst := some b };
        s.nothingDue ∧ s.gain.burst = some b)
      ∧ State.reset.nothingDue ∧ State.reset.measure.run = none := by and_intros <;> decide

theorem witness_ListenPhaseEndsTheRepetition :
    (∀ p ∈ [{ probe0 .listen with clipped := true }, { probe0 .listen with clipped := true, repeatUsed := true },
          probe0 .listen, { probe0 .listen with repetition := 2 },
          { probe0 .listen with repetition := 2, arrival := some 1003, sumSquares := 960 }],
        let s := measuring (run0 .probing [1] (some p)) .measure;
        s.nothingDue ∧ s.gain.burst = none ∧ s.measure.run = some (run0 .probing [1] (some p)) ∧ p.phase = .listen
          ∧ (s.group (groupOf 1)).state = .on)
      ∧ (∀ p ∈ [{ probe0 .listen with repetition := 2 }, { probe0 .listen with repetition := 2, arrival := some 1003, sumSquares := 960 }],
        let s := measuring (run0 .probing [] (some p)) .measure;
        s.nothingDue ∧ s.gain.burst = none ∧ s.measure.run = some (run0 .probing [] (some p)) ∧ p.phase = .listen ∧ p.clipped = false
          ∧ (run0 .probing [] (some p)).repetitions ≤ p.repetition ∧ (run0 .probing [] (some p)).mask.Pairwise (· < ·)
          ∧ s.main.relayoutDue = false ∧ s.tuner.state ≠ .hushing ∧ s.main.state = .measure ∧ s.link.opState = .running
          ∧ s.main.pending.getD s.main.selected = some 0)
      ∧ (let s := (measuring (run0 .probing [1] (some (probe0 .listen))) .measure).onGain fun g =>
          { g with burst := some ⟨0, -200, 0xACE1, 0⟩ };
        s.nothingDue ∧ s.link.opState ≠ .waking ∧ s.measure.run = some (run0 .probing [1] (some (probe0 .listen)))
          ∧ groupOf (probe0 .listen).slot = 0 ∧ (s.group 0).state = .on ∧ (s.group 0).debounceEnd ≤ s.now ∧ s.gain.burst ≠ none)
      ∧ (let s := (measuring (run0 .probing [1] (some (probe0 .listen))) .measure).onPort 9 fun x =>
          { x with enabled := true, lock := .locked };
        s.serves 1 ∧ s.measure.run = some (run0 .probing [1] (some (probe0 .listen))) ∧ (s.port 9).enabled = true
          ∧ (s.port 9).lock = .locked) := by and_intros <;> decide

theorem witness_RunEndsAndIsStopped :
    (let s := measuring (run0 .restoring [] none) .playing;
      s.nothingDue ∧ s.serves 1 ∧ s.measure.run = some (run0 .restoring [] none))
      ∧ (∀ m ∈ [RouteState.fadingOut, .measure],
          let s := measuring (run0 .probing [1] none) m;
          s.serves 1 ∧ s.measure.run = some (run0 .probing [1] none) ∧ s.link.opState = .running ∧ s.tuner.state ≠ .hushing
            ∧ s.main.relayoutDue = false ∧ s.main.state = m ∧ 0 ∈ s.render.present)
      ∧ State.reset.serves 1 ∧ State.reset.measure.run = none := by and_intros <;> decide

set_option maxRecDepth 8000 in
theorem witness_ProfileWriteAndMeasureSet :
    let raw : Fin 12 → RawSlot := fun i => if i = 0 then ⟨1, 0, 80⟩ else if i = 1 then ⟨2, 0, 80⟩ else ⟨0, 0, 0⟩;
    let half : RawHalf := ⟨1800, 120, 1⟩;
    up.serves 1 ∧ up.measure.run = none ∧ parseLayout raw 0 = some (State.resetLayout, false)
      ∧ half.polarity.toNat ≤ 1 ∧ half.distance.toNat ≤ 1800 ∧ -120 ≤ half.trim.toInt ∧ half.trim.toInt ≤ 120
      ∧ parseLayout raw 2 = none ∧ ¬(1801 : Word16).toNat ≤ 1800
      ∧ (measuring (run0 .probing [1] none) .measure).serves 1 ∧ (routed .playing .silent none).serves 1 := by and_intros <;> decide

theorem witness_RastersAndTunerSettings :
    (State.reset.serves 1 ∧ State.reset.tuner.state = .off ∧ (127 : Byte).toNat ≤ 127
        ∧ ∀ g, (State.reset.group g).sensor ≠ some ((0x60 : Byte).setWidth 7))
      ∧ (∀ st ∈ [TunerState.hushing, .tuning, .listening, .seeking, .scanning],
          let s := radio st (if st = .hushing then some .scan else none) (if st = .hushing then .fadingOut else .silent);
          s.serves 1 ∧ s.tuner.state = st ∧ s.tuner.state ≠ .off ∧ s.bus.state ≠ .busDown)
      ∧ (2 : Byte) = agcCode .manual ∧ 3 ≤ (3 : Byte).toNat
      ∧ (108000 - 87500) % 50 = 0 ∧ (1710 - 522) % 9 = 0 := by and_intros <;> decide

theorem witness_TuneSeekScanAndStop :
    (∀ st ∈ [TunerState.off, .tuning, .listening, .seeking, .scanning],
        let s := radio st none .silent;
        s.serves 1 ∧ s.servesLong 1 ∧ s.bus.state ≠ .busDown ∧ s.tuner.state = st)
      ∧ (∀ o ∈ [TunerOp.seek true, .scan, .tune .fm 98000 false],
          let s := radio .hushing (some o) .fadingOut;
          s.serves 1 ∧ s.tuner.state = .hushing ∧ s.tuner.op = some o ∧ tunerBound s .main = true ∧ s.link.opState = .running)
      ∧ (let s := radio .listening none .playing;
        s.serves 1 ∧ tunerBound s .main = true ∧ (s.route .main).state = .playing ∧ s.tuner.outstanding = none)
      ∧ (let s := (radio .seeking none .waiting).onTuner fun t => { t with outstanding := some (.visitRead, false) };
        s.serves 1 ∧ s.tuner.outstanding = some (.visitRead, false) ∧ s.tuner.opTag = some 7)
      ∧ (1 : Byte) = bandCode .am ∧ rasterLow .fm 100 ≤ 87500 ∧ 108000 ≤ rasterHigh .fm 100 := by and_intros <;> decide

theorem witness_TunerReadsAndPresets :
    State.reset.serves 1 ∧ (30 : Byte).toNat = (29 : Fin 30).1 + 1 ∧ 30 < (31 : Byte).toNat
      ∧ (∀ st ∈ [TunerState.off, .listening, .scanning],
          let s := (radio st none .silent).onTuner fun t => { t with presets := t.presets.set 29 (some ⟨.fm, 87500, false⟩) };
          s.serves 1 ∧ s.tuner.presets.get 29 = some ⟨.fm, 87500, false⟩ ∧ s.tuner.state = st ∧ s.tuner.band = .fm
            ∧ s.tuner.frequency = 87500 ∧ s.tuner.mono = false)
      ∧ (∀ st ∈ [TunerState.hushing, .tuning, .seeking, .scanning],
          let s := (radio st (if st = .hushing then some .scan else none) (if st = .hushing then .fadingOut else .silent)).onTuner
            fun t => { t with presets := t.presets.set 0 (some ⟨.fm, 108000, true⟩) };
          s.serves 1 ∧ s.tuner.presets.get 0 = some ⟨.fm, 108000, true⟩ ∧ s.tuner.state = st
            ∧ isChannel .fm (s.tuner.settings.step .fm) 108000 = true)
      ∧ State.reset.tuner.presets.get 29 = none := by and_intros <;> decide

theorem witness_TunerTimersExpire :
    (∀ o ∈ [TunerOp.tune .fm 98000 false, .seek true, .scan],
        let s := radio .hushing (some o) .playing;
        s.nothingDue ∧ s.bus.state ≠ .busDown ∧ s.tuner.hush = some 250 ∧ s.tuner.op = some o ∧ s.main.relayoutDue = false
          ∧ tunerBound s .main = true ∧ (s.route .main).state = .playing)
      ∧ (∀ st ∈ [TunerState.listening, .tuning, .seeking, .scanning],
          let s := radio st none .silent;
          s.nothingDue ∧ s.tuner.settle = some 8 ∧ s.tuner.poll = some 50 ∧ s.tuner.state = st ∧ s.tuner.outstanding = none)
      ∧ State.reset.tuner.hush = none ∧ State.reset.bus.state ≠ .busDown := by and_intros <;> decide

theorem witness_TunerTakesOutcomes :
    (∀ p ∈ [(TunerState.tuning, TunerStep.tuneRead), (.listening, .listenRead), (.seeking, .visitRead), (.scanning, .visitRead)],
        let s := busy .tuner ⟨0x60, [8], 3, false⟩ ((radio p.1 none .waiting).onTuner fun t =>
          { t with outstanding := some (p.2, false), failRun := 2 });
        s.nothingDue ∧ s.bus.state = .active ∧ s.bus.inProgress = some .tuner ∧ s.bus.tunerSlot = some ⟨0x60, [8], 3, false⟩
          ∧ s.bus.protectSlot = none ∧ s.bus.relaySlot = none ∧ s.tuner.deferred = none ∧ s.tuner.state = p.1
          ∧ s.tuner.outstanding = some (p.2, false) ∧ s.main.relayoutDue = false)
      ∧ (∀ p ∈ [(TunerState.tuning, TunerStep.tuneWrite), (.seeking, .visitWrite)],
          let s := busy .tuner ⟨0x60, [0, 0, 1, 2, 3], 0, false⟩ ((radio p.1 none .waiting).onTuner fun t =>
            { t with outstanding := some (p.2, false) });
          s.nothingDue ∧ s.tuner.outstanding = some (p.2, false) ∧ s.tuner.deferred = none ∧ s.tuner.state ≠ .off
            ∧ s.main.relayoutDue = false)
      ∧ (let s := busy .tuner ⟨0x60, [0, 0, 1, 2, 3], 0, false⟩ ((radio .scanning none .silent).onTuner fun t =>
          { t with
            outstanding := some (.visitWrite, false), failRun := 2, opTag := some 9
            scan := some { list := [], candidate := none, full := false, dropped := 0, returnFrequency := 87500, returnMono := false } });
        s.nothingDue ∧ s.tuner.state = .scanning ∧ s.tuner.scan ≠ none ∧ 3 ≤ min (s.tuner.failRun + 1) 255
          ∧ ∀ r ∈ [RouteId.main, .zone], (s.route r).state ≠ .waiting ∨ (s.route r).reason ≠ some .tunerBusy) := by
  and_intros <;> decide

set_option maxRecDepth 8000 in
theorem witness_RelayAndAuxRequests :
    (∀ st ∈ [BusState.idle, .active, .held, .recovering, .busDown],
        let s := up.onBus fun b => { b with state := st };
        s.servesLong 1 ∧ s.bus.state = st ∧ s.bus.relayTag = none ∧ s.bus.tunerSlot = none ∧ s.bus.protectSlot = none)
      ∧ (127 : Byte).toNat < 128 ∧ (32 : Byte).toNat ≤ 32 ∧ 32 < (List.replicate 33 (0 : Byte)).length
      ∧ (List.replicate 236 (0 : Byte)).length ≤ 236
      ∧ (busy .relay ⟨0x50, [], 1, false⟩ up).servesLong 1 ∧ (busy .relay ⟨0x50, [], 1, false⟩ up).bus.relayTag ≠ none
      ∧ (0x60 : Byte).setWidth 7 = (radio .tuning none .silent).tuner.settings.address
      ∧ (radio .tuning none .silent).servesLong 1 ∧ up.serves 1 := by and_intros <;> decide

theorem witness_RelayEndsAndTheBusRotates :
    (∀ h ∈ [true, false],
        let s := busy .relay ⟨0x50, [1], 2, h⟩ up;
        s.nothingDue ∧ s.bus.state = .active ∧ s.bus.inProgress = some .relay ∧ s.bus.relaySlot = some ⟨0x50, [1], 2, h⟩
          ∧ s.bus.relayTag = some 9 ∧ s.bus.tunerSlot = none ∧ s.bus.protectSlot = none ∧ s.bus.last = .relay ∧ 0 < [1].length)
      ∧ (let s := (busy .relay ⟨0x50, [1], 2, false⟩ up).onBus fun b =>
          { b with tunerSlot := some ⟨0x60, [8], 3, false⟩, protectSlot := some ⟨0x48, [], 2, false⟩ };
        s.bus.tunerSlot ≠ none ∧ s.bus.protectSlot ≠ none ∧ s.bus.last = .relay)
      ∧ (∀ q ∈ [(Requester.tuner, Requester.protect), (.tuner, .relay), (.protect, .relay), (.protect, .tuner), (.relay, .tuner),
          (.relay, .protect)],
        let s := (busy q.1 ⟨0x50, [1], 2, false⟩ up).onBus fun b => setSlot q.2 (some ⟨0x48, [], 2, false⟩) b;
        s.nothingDue ∧ s.link.opState ≠ .waking ∧ s.bus.state = .active ∧ s.bus.inProgress = some q.1 ∧ s.bus.last = q.1
          ∧ slotOf s.bus q.1 = some ⟨0x50, [1], 2, false⟩ ∧ ([1] : List Byte) ≠ [] ∧ 2 ≠ 0 ∧ 0 < [1].length ∧ slotOf s.bus q.2 = some ⟨0x48, [], 2, false⟩
          ∧ ∀ v : Requester, v ∈ [Requester.tuner, .protect, .relay] → v ≠ q.1 → v ≠ q.2 → slotOf s.bus v = none)
      ∧ (let s := up.onBus fun b => { b with state := .held, hold := some 50 };
        s.nothingDue ∧ s.bus.state = .held ∧ s.bus.hold = some 50 ∧ s.bus.last = .relay)
      ∧ up.nothingDue ∧ up.bus.state ≠ .active ∧ up.bus.hold = none := by and_intros <;> decide

theorem witness_StuckBusRecovers :
    (up.onBus fun b => { b with state := .held }).bus.state = .held
      ∧ (let s := busy .relay ⟨0x50, [1], 2, false⟩ up;
        s.nothingDue ∧ s.bus.state = .active ∧ s.bus.inProgress = some .relay ∧ s.bus.relayTag = some 9)
      ∧ (∀ x ∈ [none, some (⟨0x50, [1], 2, false⟩ : Transaction)],
          let s := up.onBus fun b => { b with state := .recovering, relaySlot := x, relayTag := x.map fun _ => 9 };
          s.nothingDue ∧ s.bus.state = .recovering ∧ s.bus.relaySlot = x ∧ s.bus.tunerSlot = none ∧ s.bus.protectSlot = none)
      ∧ (let s := up.onBus fun b => { b with state := .busDown, retrying := true };
        s.nothingDue ∧ s.bus.state = .busDown ∧ s.bus.retrying = true)
      ∧ (let s := up.onBus fun b => { b with state := .busDown, retry := some 1000 };
        s.nothingDue ∧ s.bus.retry = some 1000 ∧ s.bus.retrying = false)
      ∧ (let l : RecoveryLines := ⟨List.replicate 8 false ++ [true], false, true, true⟩;
        l.clockHeld = false ∧ (∃ high ∈ l.dataAfterPulse.take 9, high = true) ∧ l.dataHigh = true ∧ l.clockHigh = true)
      ∧ (let l : RecoveryLines := ⟨List.replicate 9 false, false, true, true⟩; ¬∃ high ∈ l.dataAfterPulse.take 9, high = true)
      ∧ up.nothingDue ∧ up.bus.state ≠ .held ∧ up.bus.state ≠ .active ∧ up.bus.state ≠ .recovering := by and_intros <;> decide

/-- The invariants hold somewhere, and steps that answer next are those of every waiting command. -/
theorem witness_invariants :
    State.reset.linkWithin ∧ State.reset.nothingDue ∧ State.reset.amplifiersSafe ∧ State.reset.volumesLegal
      ∧ (radio .hushing (some .scan) .fadingOut).nothingDue ∧ (radio .hushing (some .scan) .fadingOut).tuner.op ≠ none
      ∧ (radio .hushing (some .scan) .fadingOut).tunerRuns ∧ State.reset.tunerRuns
      ∧ up.linkWithin ∧ up.amplifiersSafe := by and_intros <;> decide

theorem witness_step : step { up with pending := [.frameSent] } = .next (after .frameSent up) := rfl

end Sys2Proof.Tests
end

section
/-! PROOFS. Chapter 4, gain and delay: the decibel arithmetic (R17, R78, R120). -/

namespace Sys2Proof.Machine

/-! ## The gain law (R78) -/

/-- A table entry scaled by 2^q, rounded to the nearest integer: the last step of R78. -/
def octaves (q : Int) (t : Nat) : Nat :=
  if 0 ≤ q then t * 2 ^ q.toNat else (t + 2 ^ ((-q).toNat - 1)) / 2 ^ (-q).toNat

theorem octaves_ofNat (n t : Nat) : octaves n t = t * 2 ^ n := if_pos (Int.natCast_nonneg n)

theorem octaves_negSucc (n t : Nat) : octaves (Int.negSucc n) t = (t + 2 ^ n) / 2 ^ (n + 1) :=
  if_neg (Int.not_le.mpr (Int.negSucc_lt_zero n))

theorem octaves_mono (q : Int) {t u : Nat} (h : t ≤ u) : octaves q t ≤ octaves q u := by
  unfold octaves
  split
  · exact Nat.mul_le_mul_right _ h
  · exact Nat.div_le_div_right (Nat.add_le_add_right h _)

/-- Twice the entry is the entry one octave up, rounding included. -/
theorem octaves_double (q : Int) (t : Nat) : octaves q (2 * t) = octaves (q + 1) t := by
  match q with
  | .ofNat n =>
    have hlow : octaves (Int.ofNat n) (2 * t) = 2 * t * 2 ^ n := octaves_ofNat n (2 * t)
    have hhigh : octaves (Int.ofNat n + 1) t = t * 2 ^ (n + 1) := octaves_ofNat (n + 1) t
    rw [hlow, hhigh, Nat.pow_succ', ← Nat.mul_assoc, Nat.mul_comm 2 t]
  | .negSucc 0 =>
    have hhigh : octaves (Int.negSucc 0 + 1) t = t * 2 ^ 0 := octaves_ofNat 0 t
    rw [hhigh, octaves_negSucc]; omega
  | .negSucc (n + 1) =>
    have hhigh : octaves (Int.negSucc (n + 1) + 1) t = (t + 2 ^ n) / 2 ^ (n + 1) := octaves_negSucc n t
    rw [hhigh, octaves_negSucc, Nat.pow_succ' (n := n + 1), Nat.pow_succ' (n := n), ← Nat.mul_add,
      Nat.mul_div_mul_left _ _ Nat.two_pos]

theorem gainLaw_floor {c : Int} (h : c ≤ -900) : gainLaw c = 0 := if_pos h

theorem gainLaw_eq_octaves {c q : Int} {r : Nat} (h : -900 < c) (hc : c = 60 * q + r) (hr : r < 60) :
    gainLaw c = octaves q (gainTable.getD r 0) := by
  have hq : c / 60 = q := by omega
  have hr' : (c - 60 * q).toNat = r := by omega
  simp only [gainLaw, if_neg (Int.not_le.mpr h), hq, hr', octaves]

/-- Every entry of the table is the nearest integer to 2^20 × 2^(r / 60). -/
theorem gainTable_nearest : ∀ r < 60, (2 * gainTable.getD r 0 - 1) ^ 60 < 2 ^ (1260 + r)
    ∧ 2 ^ (1260 + r) < (2 * gainTable.getD r 0 + 1) ^ 60 := by decide +kernel

theorem gainTable_step : ∀ r < 59, gainTable.getD r 0 ≤ gainTable.getD (r + 1) 0 := by decide

theorem lt_of_pow_lt_pow {n a b : Nat} (h : a ^ n < b ^ n) : a < b :=
  Nat.lt_of_not_le fun hba => Nat.not_lt.mpr (Nat.pow_le_pow_left hba n) h

/-- At most one integer is the nearest to the `n`-th root of a number, halved. -/
theorem nearest_unique {n a t u : Nat} (ht : (2 * t - 1) ^ n < a) (ht' : a < (2 * t + 1) ^ n) (hu : (2 * u - 1) ^ n < a)
    (hu' : a < (2 * u + 1) ^ n) : t = u := by
  have h1 : 2 * t - 1 < 2 * u + 1 := lt_of_pow_lt_pow (Nat.lt_trans ht hu')
  have h2 : 2 * u - 1 < 2 * t + 1 := lt_of_pow_lt_pow (Nat.lt_trans hu ht')
  omega

theorem gainLaw_of_nearest {c q : Int} {r t : Nat} (h : -900 < c) (hc : c = 60 * q + r) (hr : r < 60)
    (ht : (2 * t - 1) ^ 60 < 2 ^ (1260 + r)) (ht' : 2 ^ (1260 + r) < (2 * t + 1) ^ 60) : gainLaw c = octaves q t := by
  obtain ⟨hg, hg'⟩ := gainTable_nearest r hr
  rw [gainLaw_eq_octaves h hc hr, nearest_unique hg hg' ht ht']

/-- One tenth of a decibel up never lowers the coefficient: inside an octave the table grows, and its last entry is at most
twice its first. -/
theorem gainLaw_le_succ (c : Int) : gainLaw c ≤ gainLaw (c + 1) := by
  by_cases h : c ≤ -900
  · rw [gainLaw_floor h]; exact Nat.zero_le _
  · obtain ⟨q, r, hc, hr⟩ : ∃ (q : Int) (r : Nat), c = 60 * q + r ∧ r < 60 := ⟨c / 60, (c % 60).toNat, by omega, by omega⟩
    rw [gainLaw_eq_octaves (by omega) hc hr]
    by_cases hr' : r < 59
    · rw [gainLaw_eq_octaves (q := q) (r := r + 1) (by omega) (by omega) (by omega)]
      exact octaves_mono q (gainTable_step r hr')
    · obtain rfl : r = 59 := by omega
      rw [gainLaw_eq_octaves (q := q + 1) (r := 0) (by omega) (by omega) (by omega), ← octaves_double]
      exact octaves_mono q (by decide)

theorem gainLaw_le_add (c : Int) (n : Nat) : gainLaw c ≤ gainLaw (c + n) := by
  induction n with
  | zero => exact Nat.le_of_eq (congrArg gainLaw (Int.add_zero c).symm)
  | succ n ih =>
    rw [Int.natCast_succ, ← Int.add_assoc]
    exact Nat.le_trans ih (gainLaw_le_succ (c + n))

theorem gainLaw_mono {c d : Int} (h : c ≤ d) : gainLaw c ≤ gainLaw d := by
  obtain ⟨n, rfl⟩ := Int.le.dest h
  exact gainLaw_le_add c n

/-! ## The gain factors of the ADC (R17) -/

/-- One bit of the root: it is set when the power stays within the bound. -/
def rootBit (bound b x : Nat) : Nat := if (x + 2 ^ b) ^ 120 ≤ bound then x + 2 ^ b else x

theorem root120_eq_foldr (bound : Nat) : root120 bound = (List.range 23).foldr (rootBit bound) 0 := rfl

/-- The bits below `n`, found from the highest down, close in on the root from a value within 2^n of it. -/
theorem foldr_rootBit_spec (bound : Nat) : ∀ n x : Nat, x ^ 120 ≤ bound → bound < (x + 2 ^ n) ^ 120 →
    ((List.range n).foldr (rootBit bound) x) ^ 120 ≤ bound
      ∧ bound < ((List.range n).foldr (rootBit bound) x + 1) ^ 120 := by
  intro n
  induction n with
  | zero => intro x hlo hhi; exact ⟨hlo, hhi⟩
  | succ n ih =>
    intro x hlo hhi
    rw [List.range_succ, List.foldr_append, List.foldr_cons, List.foldr_nil]
    apply ih <;> unfold rootBit <;> split
    · assumption
    · exact hlo
    · rwa [Nat.add_assoc, ← Nat.two_mul, ← Nat.pow_succ']
    · exact Nat.not_le.mp ‹_›

theorem root120_spec {bound : Nat} (h : bound < (2 ^ 23) ^ 120) :
    root120 bound ^ 120 ≤ bound ∧ bound < (root120 bound + 1) ^ 120 := by
  rw [root120_eq_foldr]
  exact foldr_rootBit_spec bound 23 0 (by rw [Nat.zero_pow (by decide)]; exact Nat.zero_le bound) (by rwa [Nat.zero_add])

theorem two_pow_lt_pow_pow {n a k : Nat} (h : n < a * k) : 2 ^ n < (2 ^ a) ^ k := by
  rw [← Nat.pow_mul]; exact Nat.pow_lt_pow_right Nat.one_lt_two h

/-- The predecessor of an even number is odd or 0, so no power of it is a power of two. -/
theorem pred_even_pow_ne {k m n : Nat} (hm : m ≠ 0) (hn : n ≠ 0) : (2 * k - 1) ^ m ≠ 2 ^ n := by
  intro heq
  cases k with
  | zero =>
    rw [Nat.mul_zero, Nat.zero_sub, Nat.zero_pow (Nat.pos_of_ne_zero hm)] at heq
    exact Nat.ne_of_lt (Nat.two_pow_pos n) heq
  | succ k =>
    have hodd : (2 * (k + 1) - 1) ^ m % 2 = 1 := by
      rw [Nat.pow_mod, show (2 * (k + 1) - 1) % 2 = 1 by omega, Nat.one_pow]
    have heven : 2 ^ n % 2 = 0 := by
      rw [Nat.pow_mod, Nat.mod_self, Nat.zero_pow (Nat.pos_of_ne_zero hn)]
    omega

/-- Half of a floor, rounded up, is the nearest integer to the half: the odd number below it is no root of a power of two. -/
theorem nearest_of_root {n x : Nat} (hn : n ≠ 0) (hlo : x ^ 120 ≤ 2 ^ n) (hhi : 2 ^ n < (x + 1) ^ 120) :
    (2 * ((x + 1) / 2) - 1) ^ 120 < 2 ^ n ∧ 2 ^ n < (2 * ((x + 1) / 2) + 1) ^ 120 :=
  ⟨Nat.lt_of_le_of_ne (Nat.le_trans (Nat.pow_le_pow_left (by omega) 120) hlo) (pred_even_pow_ne (by decide) hn),
    Nat.lt_of_lt_of_le hhi (Nat.pow_le_pow_left (by omega) 120)⟩

/-- The bound whose root `trimGain` takes is the power of two of R17. -/
theorem trimGain_eq (c : Byte) : trimGain c = (root120 (2 ^ (2648 - c.toNat)) + 1) / 2 := by
  have hc : c.toNat < 256 := c.isLt
  have he : (19 + (368 - c.toNat) / 120) * 120 + (368 - c.toNat) % 120 = 2648 - c.toNat := by omega
  rw [trimGain, ← he, Nat.pow_add 2 (_ * 120), Nat.pow_mul]

theorem trimGain_nearest (c : Byte) :
    (2 * trimGain c - 1) ^ 120 < 2 ^ (2648 - c.toNat) ∧ 2 ^ (2648 - c.toNat) < (2 * trimGain c + 1) ^ 120 := by
  have hc : c.toNat < 256 := c.isLt
  obtain ⟨hlo, hhi⟩ := root120_spec (two_pow_lt_pow_pow (n := 2648 - c.toNat) (by omega))
  rw [trimGain_eq]
  exact nearest_of_root (by omega) hlo hhi

/-! ## The level of a peak (R120) -/

/-- The logarithm is that of the spec whether the floor of log2 of the power is even or odd. -/
theorem logTenths_nearest {p : Nat} (hp : 1 ≤ p) :
    2 ^ (2 * logTenths p) ≤ 2 * p ^ 120 ∧ p ^ 120 < 2 ^ (2 * logTenths p + 1) := by
  have hpos : p ^ 120 ≠ 0 := Nat.ne_of_gt (Nat.pow_pos hp)
  unfold logTenths
  generalize p ^ 120 = x at hpos ⊢
  have hlo : 2 ^ (x.log2 + 1) ≤ 2 * x := by rw [Nat.pow_succ']; exact Nat.mul_le_mul_left 2 (Nat.log2_self_le hpos)
  have hhi : x < 2 ^ (x.log2 + 1) := Nat.lt_log2_self
  exact ⟨Nat.le_trans (Nat.pow_le_pow_right Nat.two_pos (by omega)) hlo,
    Nat.lt_of_lt_of_le hhi (Nat.pow_le_pow_right Nat.two_pos (by omega))⟩

/-- Settles O36: the table by evaluation, monotonicity from the step by a tenth of a decibel, the gain factors from the bitwise
root, the logarithm from the floor of log2. -/
theorem decibelArithmeticIsRounded : Obligations.DecibelArithmeticIsRounded :=
  ⟨fun _ h => gainLaw_floor h, fun _ _ _ _ h hc hr ht ht' => gainLaw_of_nearest h hc hr ht ht', fun _ _ h => gainLaw_mono h,
    by decide, trimGain_nearest, fun _ hp => logTenths_nearest hp⟩

end Sys2Proof.Machine
end

section
/-! PROOFS. Chapter 4, gain and delay: the requests of the channel table and the encoder (R69 to R72, R87, R89, R92). -/

namespace Sys2Proof.Machine

/-! ## Fields and clamps of request bodies -/

/-- The two bytes of a u16 or s16 field, most significant first again, are the word that was sent (R194). -/
theorem high_append_low (w : Word16) : w.extractLsb' 8 8 ++ w.extractLsb' 0 8 = w :=
  (BitVec.extractLsb'_append_extractLsb'_eq_extractLsb' rfl).trans BitVec.extractLsb'_eq_self

theorem wordAt_le16 (w : Word16) : wordAt (le16 w) 0 = w := high_append_low w

theorem boolOf_of_lt {b : Byte} (h : b.toNat < 2) : boolOf b = some (decide (b = 1)) := by
  obtain rfl | rfl : b = 0 ∨ b = 1 := by bv_omega
  all_goals rfl

theorem boolOf_of_le {b : Byte} (h : 2 ≤ b.toNat) : boolOf b = none := List.getElem?_eq_none h

theorem flagCode_eq_of_lt {b : Byte} (h : b.toNat < 2) : flagCode (decide (b = 1)) = b := by
  obtain rfl | rfl : b = 0 ∨ b = 1 := by bv_omega
  all_goals rfl

theorem slotNumber_eq_none {b : Byte} (h : b = 0 ∨ 12 < b.toNat) : slotNumber b = none :=
  dif_neg (by bv_omega)

theorem number_eq {b : Byte} {n : Nat} {i : Fin n} (h : b.toNat = i.1 + 1) : number i = b := by
  rw [number, ← h, BitVec.ofNat_toNat, BitVec.setWidth_eq]

theorem slotNumber_number (i : Fin 12) : slotNumber (number i) = some i := by revert i; decide

theorem clampInt_eq {lo hi : Int} (h : lo ≤ hi) (x : Int) : clampInt lo hi x = max lo (min hi x) := by
  unfold clampInt; split
  · omega
  · split <;> omega

/-! ## Requests that change the gain unit alone -/

/-- A request whose handler changes at most the gain unit queues its reply and nothing else. -/
theorem serveRequest_onGain {s : State} {r : Request} {hd : Request → State → Answer} {f : Gain → Gain} {st : Status}
    {body : State → List Byte} (hn : s.nothingDue) (h : hd r s.taken = (s.taken.onGain f, st, body)) :
    serveRequest hd r s.taken = (s.onGain f).replied r.kind r.tag st (body (s.taken.onGain f)) := by
  rw [serveRequest_quiet (by rw [h]; exact hn) (by rw [h]; rfl), h]; rfl

/-- A request that changes nothing queues its reply. -/
theorem serveRequest_answer {s : State} {r : Request} {hd : Request → State → Answer} {st : Status}
    {body : State → List Byte} (hn : s.nothingDue) (h : hd r s.taken = answer st body s.taken) :
    serveRequest hd r s.taken = s.replied r.kind r.tag st (body s.taken) :=
  serveRequest_onGain (f := id) hn h

/-! ## CHANNEL_SET (R87) -/

/-- The body of CHANNEL_SET (R195). -/
def channelSetBody (b : Byte) (distance trim : Word16) (polarity immediate : Byte) : List Byte :=
  b :: le16 distance ++ le16 trim ++ [polarity, immediate]

/-- The values of a slot as every reply to CHANNEL_SET shows them. -/
def pendingShown (i : Fin 12) (s : State) : List Byte := number i :: halfBytes (s.channel i).pending

theorem exec_channelSet {s : State} {tag : Byte} (b : Byte) (distance trim : Word16) (polarity immediate : Byte)
    (h : s.serves tag) :
    exec (.channelSet tag b distance trim polarity immediate) s
      = .next (serveRequest onChannelSet ⟨0x2B, tag, channelSetBody b distance trim polarity immediate⟩ s.taken) :=
  congrArg _ (served_channelSet h rfl)

section
variable {kind tag b polarity immediate : Byte} {distance trim : Word16} {i : Fin 12} {s : State}

theorem channelSetBody_slot : byteAt (channelSetBody b distance trim polarity immediate) 0 = b := rfl

theorem channelSetBody_distance : wordAt (channelSetBody b distance trim polarity immediate) 1 = distance :=
  high_append_low distance

theorem channelSetBody_trim : wordAt (channelSetBody b distance trim polarity immediate) 3 = trim :=
  high_append_low trim

theorem channelSetBody_polarity : byteAt (channelSetBody b distance trim polarity immediate) 5 = polarity := rfl

theorem channelSetBody_immediate : byteAt (channelSetBody b distance trim polarity immediate) 6 = immediate := rfl

theorem onChannelSet_noSlot (hb : slotNumber b = none) :
    onChannelSet ⟨kind, tag, channelSetBody b distance trim polarity immediate⟩ s = notFound s := by
  simp only [onChannelSet, channelSetBody_slot, hb]

theorem onChannelSet_badValue (hf : boolOf polarity = none ∨ boolOf immediate = none) :
    onChannelSet ⟨kind, tag, channelSetBody (number i) distance trim polarity immediate⟩ s
      = answer .badValue (pendingShown i) s := by
  simp only [onChannelSet, channelSetBody_slot, channelSetBody_polarity, channelSetBody_immediate, slotNumber_number]
  rcases hf with hf | hf <;> rw [hf]
  · rfl
  · cases boolOf polarity <;> rfl

theorem onChannelSet_busy {inverted : Bool} (hp : boolOf polarity = some inverted)
    (hm : boolOf immediate = some true) (hr : s.measure.run ≠ none) :
    onChannelSet ⟨kind, tag, channelSetBody (number i) distance trim polarity immediate⟩ s
      = answer .busy (pendingShown i) s := by
  simp only [onChannelSet, channelSetBody_slot, channelSetBody_polarity, channelSetBody_immediate, slotNumber_number, hp, hm]
  exact if_pos ⟨trivial, hr⟩

theorem onChannelSet_writes {inverted now : Bool} (hp : boolOf polarity = some inverted)
    (hm : boolOf immediate = some now) (hr : now = true → s.measure.run = none) :
    onChannelSet ⟨kind, tag, channelSetBody (number i) distance trim polarity immediate⟩ s
      = (s.onChannel i fun c => { c with pending := (clampHalf distance trim inverted).1, marked := c.marked || now },
          clampStatus (clampHalf distance trim inverted).2, pendingShown i) := by
  simp only [onChannelSet, channelSetBody_slot, channelSetBody_distance, channelSetBody_trim, channelSetBody_polarity,
    channelSetBody_immediate, slotNumber_number, hp, hm]
  exact if_neg fun ⟨hnow, hrun⟩ => hrun (hr hnow)

end

/-- The half that CHANNEL_SET writes, clamped as R87 says. -/
theorem clampHalf_fst (distance trim : Word16) (inverted : Bool) :
    (clampHalf distance trim inverted).1 = ⟨min distance.toNat 1800, max (-120) (min 120 trim.toInt), inverted⟩ := by
  simp only [clampHalf, clampInt_eq (by decide : (-120 : Int) ≤ 120)]

/-- CHANNEL_SET is CLAMPED exactly when the half written differs from the values sent. -/
theorem clampStatus_clampHalf (distance trim : Word16) (inverted : Bool) :
    clampStatus (clampHalf distance trim inverted).2
      = if min distance.toNat 1800 = distance.toNat ∧ max (-120) (min 120 trim.toInt) = trim.toInt then .ok else .clamped := by
  simp only [clampHalf, clampInt_eq (by decide : (-120 : Int) ≤ 120), clampStatus]
  by_cases hd : min distance.toNat 1800 = distance.toNat <;> by_cases ht : max (-120) (min 120 trim.toInt) = trim.toInt
    <;> simp [hd, ht]

/-! ## LOAD (R89) -/

theorem mem_allSlots (i : Fin 12) : i ∈ allSlots := by revert i; decide

theorem mem_slotsOfMask {m : Word16} {i : Fin 12} : i ∈ slotsOfMask m ↔ m.getLsbD i.1 = true := by
  simp [slotsOfMask, mem_allSlots]

/-- Marking a list of slots is one pass over the channel table. -/
theorem markSlots_eq (l : List (Fin 12)) (s : State) :
    markSlots l s = s.onGain fun g =>
      { g with channels := g.channels.mapIdx fun i c => { c with marked := c.marked || decide (i ∈ l) } } := by
  induction l generalizing s with
  | nil =>
    have : (s.gain.channels.mapIdx fun i c => { c with marked := c.marked || decide (i ∈ []) }) = s.gain.channels :=
      Table.ext_get fun i => by simp
    simp only [markSlots, List.foldl_nil, State.onGain, this]
  | cons j rest ih =>
    have : ((s.gain.channels.modify j fun c => { c with marked := true }).mapIdx fun i c =>
          { c with marked := c.marked || decide (i ∈ rest) })
        = s.gain.channels.mapIdx fun i c => { c with marked := c.marked || decide (i ∈ j :: rest) } :=
      Table.ext_get fun i => by
        rw [Table.get_mapIdx, Table.get_mapIdx, Table.get_modify]
        by_cases h : j = i
        · simp [h]
        · simp [h, Ne.symm h]
    rw [markSlots, List.foldl_cons, ← markSlots, ih]
    simp only [State.onChannel, State.onGain, this]

theorem markSlots_slotsOfMask (m : Word16) (s : State) :
    markSlots (slotsOfMask m) s = s.onGain fun g =>
      { g with channels := g.channels.mapIdx fun i c => { c with marked := c.marked || m.getLsbD i.1 } } := by
  simp only [markSlots_eq, mem_slotsOfMask, Bool.decide_eq_true]

/-- The marked slots as every reply to LOAD shows them. -/
def marksShown (s : State) : List Byte := u16 (maskOf (markedSlots s))

/-- LOAD refuses the empty mask, and a bit above slot 12 outside the mask ALL (R89, R194). -/
theorem onLoad_badValue {kind tag : Byte} {slots : Word16} {s : State} (h : slots = 0 ∨ (4096 ≤ slots.toNat ∧ slots ≠ 0xFFFF)) :
    onLoad ⟨kind, tag, le16 slots⟩ s = answer .badValue marksShown s := by
  simp only [onLoad, wordAt_le16]
  exact if_pos (h.imp_right fun ⟨hm, hne⟩ => ⟨hne, decide_eq_true (by omega)⟩)

theorem onLoad_marks {kind tag : Byte} {slots : Word16} {s : State} (h0 : slots ≠ 0) (h : slots.toNat < 4096 ∨ slots = 0xFFFF) :
    onLoad ⟨kind, tag, le16 slots⟩ s = (markSlots (slotsOfMask slots) s, .ok, marksShown) := by
  simp only [onLoad, wordAt_le16]
  refine if_neg (not_or.mpr ⟨h0, fun ⟨hne, hs⟩ => ?_⟩)
  have := of_decide_eq_true hs
  exact h.elim (by omega) hne

theorem exec_load {s : State} {tag : Byte} (slots : Word16) (h : s.serves tag) :
    exec (.load tag slots) s = .next (serveRequest onLoad ⟨0x2D, tag, le16 slots⟩ s.taken) :=
  congrArg _ (served_load h rfl)

/-- Settles O33: each refusal and the write of CHANNEL_SET from its handler's case, LOAD from the one pass that its marks are. -/
theorem channelSetAndLoad : Obligations.ChannelSetAndLoad := by
  intro s tag h
  have ⟨_, _, _, _, hn⟩ := h
  refine ⟨fun b polarity immediate distance trim => ⟨fun hb => ?_, fun i hi => ?_⟩,
    fun slots => ⟨fun hbad => ?_, fun h0 hm => ?_⟩⟩
  · rw [exec_channelSet _ _ _ _ _ h, serveRequest_answer hn (onChannelSet_noSlot (slotNumber_eq_none hb))]
  · obtain rfl := number_eq hi
    rw [exec_channelSet _ _ _ _ _ h]
    refine ⟨fun hbad => ?_, fun hp hm hrun => ?_, fun hp hm hrun => ?_⟩
    · rw [serveRequest_answer hn (onChannelSet_badValue (hbad.imp boolOf_of_le boolOf_of_le))]; rfl
    · rw [serveRequest_answer hn (onChannelSet_busy (boolOf_of_lt hp) (by rw [hm]; rfl) hrun)]; rfl
    · have hfree : decide (immediate = 1) = true → s.taken.measure.run = none := fun h1 =>
        hrun.resolve_left fun h0 => by rw [h0] at h1; cases h1
      rw [serveRequest_onGain hn (onChannelSet_writes (boolOf_of_lt hp) (boolOf_of_lt hm) hfree),
        clampStatus_clampHalf, clampHalf_fst]
      simp only [pendingShown, State.channel, onGain_gain, Table.get_modify_same]
      rfl
  · rw [exec_load _ h, serveRequest_answer hn (onLoad_badValue hbad)]; rfl
  · rw [exec_load _ h, serveRequest_onGain hn ((onLoad_marks h0 hm).trans (by rw [markSlots_slotsOfMask]))]; rfl

/-! ## ENCODER_SET (R92) -/

theorem exec_encoderSet {s : State} {tag : Byte} (enable clear : Byte) (h : s.serves tag) :
    exec (.encoderSet tag enable clear) s = .next (serveRequest onEncoderSet ⟨0x30, tag, [enable, clear]⟩ s.taken) :=
  congrArg _ (served_encoderSet h rfl)

/-- The encoder as the replies to ENCODER_SET show it; the error counter `errors` is that before a clear. -/
def encoderShown (errors : Nat) (s : State) : List Byte :=
  flagCode s.gain.encoder.enabled :: s8 s.gain.encoder.count ++ u16 errors

theorem onEncoderSet_badValue {kind tag enable clear : Byte} {s : State} (h : boolOf enable = none ∨ boolOf clear = none) :
    onEncoderSet ⟨kind, tag, [enable, clear]⟩ s = answer .badValue (encoderShown s.gain.encoder.errors) s := by
  simp only [onEncoderSet, byteAt, List.getD_cons_zero, List.getD_cons_succ]
  rcases h with h | h <;> rw [h]
  · rfl
  · cases boolOf enable <;> rfl

theorem onEncoderSet_sets {kind tag enable clear : Byte} {on wipe : Bool} {s : State} (he : boolOf enable = some on)
    (hc : boolOf clear = some wipe) :
    onEncoderSet ⟨kind, tag, [enable, clear]⟩ s
      = (s.onGain fun g => { g with encoder := clearErrors wipe (enableEncoder on s.pins.encA s.pins.encB g.encoder) }, .ok,
          encoderShown s.gain.encoder.errors) := by
  simp only [onEncoderSet, byteAt, List.getD_cons_zero, List.getD_cons_succ, he, hc]
  rfl

theorem clearErrors_eq (wipe : Bool) (e : Encoder) :
    clearErrors wipe e = { e with errors := if wipe = true then 0 else e.errors } := by
  cases wipe <;> rfl

theorem enableEncoder_errors (on a b : Bool) (e : Encoder) : (enableEncoder on a b e).errors = e.errors := by
  unfold enableEncoder; split
  · rfl
  · split <;> rfl

theorem enableEncoder_enabled (on a b : Bool) (e : Encoder) : (enableEncoder on a b e).enabled = on := by
  unfold enableEncoder; split
  · assumption
  · split
    · exact Eq.symm ‹on = true›
    · exact (Bool.eq_false_iff.mpr ‹¬on = true›).symm

/-! ## The lines of the encoder (R70 to R72) -/

/-- The changes of one line along the forward cycle 00, 10, 11, 01 (R71). -/
def forwardCycle : List ((Bool × Bool) × (Bool × Bool)) :=
  [((false, false), (true, false)), ((true, false), (true, true)), ((true, true), (false, true)),
   ((false, true), (false, false))]

/-- The distance between the places of two line pairs tells the change: 1 along the cycle, 3 against it, 2 for both lines. -/
theorem quadrature_diff : ∀ x y a b : Bool,
    ((quadrature a b + 4 - quadrature x y) % 4 = 1 ↔ ((x, y), (a, b)) ∈ forwardCycle)
      ∧ ((quadrature a b + 4 - quadrature x y) % 4 = 3 ↔ ((a, b), (x, y)) ∈ forwardCycle)
      ∧ ((quadrature a b + 4 - quadrature x y) % 4 = 2 ↔ a ≠ x ∧ b ≠ y) := by decide

theorem count16_eq (n : Nat) : count16 n = min (n + 1) 65535 := by unfold count16; split <;> omega

/-- A new line pair counts up along the cycle, down against it, and a change of both lines is an error (R71). -/
theorem encoderMove_eq (a b : Bool) (e : Encoder) :
    encoderMove a b e =
      { enabled := e.enabled, refA := a, refB := b
        count := if ((e.refA, e.refB), (a, b)) ∈ forwardCycle then e.count + 1
          else if ((a, b), (e.refA, e.refB)) ∈ forwardCycle then e.count - 1 else e.count
        errors := if a ≠ e.refA ∧ b ≠ e.refB then min (e.errors + 1) 65535 else e.errors } := by
  obtain ⟨hup, hdown, hboth⟩ := quadrature_diff e.refA e.refB a b
  simp only [encoderMove, hup, hdown, hboth, count16_eq]

/-- A volume that is set is shown by the notice, with the mute term as it stands (R70). -/
theorem setVolume_main (v : Int) (cause : Byte) (s : State) :
    setVolume .main v cause s
      = if v = s.gain.mainVolume then s
        else emit .route ([1, 0] ++ s16 v ++ [if s.gain.mainMute then 1 else 0, cause])
          (s.onGain fun g => { g with mainVolume := v }) := by
  unfold setVolume
  exact ite_congr (propext eq_comm) (fun _ => rfl) (fun _ => rfl)

theorem clampVolume_main (v : Int) : clampVolume .main v = max (-800) (min 150 v) := clampInt_eq (by decide) v

theorem setVolume_nothingDue {v : Int} {cause : Byte} {s : State} (h : s.nothingDue) :
    (setVolume .main v cause s).nothingDue := by
  rw [setVolume_main]; split
  · exact h
  · exact nothingDue_emit h

theorem encoderStep_nothingDue {s : State} (h : s.nothingDue) : (encoderStep s).nothingDue := by
  simp only [encoderStep]; split
  · exact setVolume_nothingDue h
  · split
    · exact setVolume_nothingDue h
    · exact h

theorem exec_encoderLineChange_disabled {s : State} (a b : Bool) (h : s.gain.encoder.enabled = false) :
    exec (.encoderLineChange a b) s = .next (s.onPins fun p => { p with encA := a, encB := b }) := by
  have : exec (.encoderLineChange a b) s = execEncoderLineChange a b s := rfl
  rw [this, execEncoderLineChange, h]; rfl

/-- At an enabled encoder the new line pair is counted and a full detent is taken; nothing else falls due. -/
theorem exec_encoderLineChange_enabled {s : State} (a b : Bool) (hn : s.nothingDue) (h : s.gain.encoder.enabled = true) :
    exec (.encoderLineChange a b) s
      = .next (encoderStep ((s.onPins fun p => { p with encA := a, encB := b }).onGain fun g =>
          { g with encoder := encoderMove a b s.gain.encoder })) := by
  have : exec (.encoderLineChange a b) s = execEncoderLineChange a b s := rfl
  rw [this, execEncoderLineChange, h]
  exact congrArg _ (settle_of_nothingDue (encoderStep_nothingDue hn))

/-- Settles O35: ENCODER_SET from its handler's cases, a line change from the count, the error mark and the step it may take. -/
theorem encoderCountsAndSteps : Obligations.EncoderCountsAndSteps := by
  refine ⟨fun s tag enable clear h => ?_, fun s a b hn => ?_⟩
  · have ⟨_, _, _, _, hn⟩ := h
    refine ⟨fun hbad => ?_, fun he hc => ?_⟩
    · rw [exec_encoderSet _ _ h, serveRequest_answer hn (onEncoderSet_badValue (hbad.imp boolOf_of_le boolOf_of_le))]; rfl
    · intro now
      have hnow : enableEncoder (decide (enable = 1)) s.pins.encA s.pins.encB s.gain.encoder = now := by
        simp only [enableEncoder, decide_eq_true_eq, now]
      rw [exec_encoderSet _ _ h, serveRequest_onGain hn (onEncoderSet_sets (boolOf_of_lt he) (boolOf_of_lt hc))]
      have hset : clearErrors (decide (clear = 1)) now
          = { now with errors := if clear = 1 then 0 else s.gain.encoder.errors } := by
        rw [clearErrors_eq, ← hnow, enableEncoder_errors]; simp only [decide_eq_true_eq]
      have hon : now.enabled = decide (enable = 1) := by rw [← hnow, enableEncoder_enabled]
      simp only [encoderShown, State.onGain, State.taken, onLink_gain, onLink_pins, hnow, hset, hon, flagCode_eq_of_lt he]
  · intro e cycle lines count errors counted step
    refine ⟨exec_encoderLineChange_disabled a b, fun h => ?_⟩
    have hmove : encoderMove a b s.gain.encoder = ⟨s.gain.encoder.enabled, a, b, count, errors⟩ :=
      encoderMove_eq a b s.gain.encoder
    rw [exec_encoderLineChange_enabled a b hn h, hmove]
    simp only [encoderStep, clampVolume_main, setVolume_main, onGain_gain, onPins_gain]
    rfl

end Sys2Proof.Machine
end

section
/-! PROOFS. Chapter 6, room measurement: the profile and the measurement settings (R135, R137), with the record blocks of a
body (R197) and the re-layout request (R33) that PROFILE_WRITE shares with LAYOUT_SET. -/

namespace Sys2Proof.Machine

/-! ## Blocks of records in a body (R197) -/

theorem byteAt_append_left {a : List Byte} {k : Nat} (b : List Byte) (h : k < a.length) : byteAt (a ++ b) k = byteAt a k := by
  simp only [byteAt, List.getD_eq_getElem?_getD, List.getElem?_append_left h]

theorem byteAt_append_right {a : List Byte} {m : Nat} (b : List Byte) (k : Nat) (h : a.length = m) :
    byteAt (a ++ b) (m + k) = byteAt b k := by
  have hm : a.length ≤ m + k := by omega
  simp only [byteAt, List.getD_eq_getElem?_getD, List.getElem?_append_right hm, h, Nat.add_sub_cancel_left]

/-- Record `i` of a block whose records have `m` bytes each begins at byte `m * i`. -/
theorem byteAt_records {α : Type} {bytes : α → List Byte} {m k : Nat} (hm : ∀ x, (bytes x).length = m) (hk : k < m)
    (rest : List Byte) {n : Nat} (f : Fin n → α) (i : Fin n) :
    byteAt (((List.ofFn f).map bytes).flatten ++ rest) (m * i.1 + k) = byteAt (bytes (f i)) k := by
  induction n with
  | zero => exact i.elim0
  | succ n ih =>
    rw [List.ofFn_succ, List.map_cons, List.flatten_cons, List.append_assoc]
    cases i using Fin.cases with
    | zero => rw [Fin.val_zero, Nat.mul_zero, Nat.zero_add, byteAt_append_left _ (by rw [hm]; exact hk)]
    | succ j =>
      rw [Fin.val_succ, show m * (j.1 + 1) + k = m + (m * j.1 + k) by rw [Nat.mul_succ]; omega,
        byteAt_append_right _ _ (hm _)]
      exact ih _ j

theorem length_records {α : Type} {bytes : α → List Byte} {m : Nat} (hm : ∀ x, (bytes x).length = m) (l : List α) :
    (l.map bytes).flatten.length = l.length * m := by
  simp only [List.length_flatten, List.map_map, Function.comp_def, hm, List.map_const', List.sum_replicate_nat]

theorem rawSlotAt_records (raw : Fin 12 → RawSlot) (rest : List Byte) :
    rawSlotAt (((List.ofFn raw).map RawSlot.bytes).flatten ++ rest) 0 = raw := by
  funext i
  have at4 {k : Nat} (hk : k < 4) := byteAt_records (bytes := RawSlot.bytes) (fun _ => rfl) hk rest raw i
  have hword : wordAt (((List.ofFn raw).map RawSlot.bytes).flatten ++ rest) (4 * i.1 + 2) = (raw i).crossover := by
    rw [wordAt, at4 (by decide : 2 < 4), Nat.add_assoc, at4 (by decide : 3 < 4)]
    exact high_append_low _
  simp only [rawSlotAt, Nat.zero_add, hword]
  rw [at4 (by decide : 1 < 4), ← Nat.add_zero (4 * i.1), at4 (by decide : 0 < 4)]
  rfl

theorem rawHalfAt_records {front : List Byte} {m : Nat} (h : front.length = m) (half : Fin 12 → RawHalf) :
    rawHalfAt (front ++ ((List.ofFn half).map RawHalf.bytes).flatten) m = half := by
  funext i
  have at5 {k : Nat} (hk : k < 5) : byteAt (front ++ ((List.ofFn half).map RawHalf.bytes).flatten) (m + 5 * i.1 + k)
      = byteAt (RawHalf.bytes (half i)) k := by
    rw [Nat.add_assoc, byteAt_append_right _ _ h]
    have hrecord := byteAt_records (bytes := RawHalf.bytes) (fun _ => rfl) hk [] half i
    rwa [List.append_nil] at hrecord
  have word5 {k : Nat} (hk : k + 1 < 5) : wordAt (front ++ ((List.ofFn half).map RawHalf.bytes).flatten) (m + 5 * i.1 + k)
      = wordAt (RawHalf.bytes (half i)) k := by
    rw [wordAt, Nat.add_assoc _ k 1, at5 hk, at5 (Nat.lt_of_succ_lt hk)]; rfl
  have hdistance : wordAt (RawHalf.bytes (half i)) 0 = (half i).distance := high_append_low _
  have htrim : wordAt (RawHalf.bytes (half i)) 2 = (half i).trim := high_append_low _
  simp only [rawHalfAt]
  rw [word5 (by decide : 2 + 1 < 5), at5 (by decide : 4 < 5), ← Nat.add_zero (m + 5 * i.1), word5 (by decide : 0 + 1 < 5),
    hdistance, htrim]
  rfl

/-! ## The halves of a profile (R135) -/

/-- Every value of the half is inside its range. -/
def HalfInRange (x : RawHalf) : Prop :=
  x.polarity.toNat ≤ 1 ∧ x.distance.toNat ≤ 1800 ∧ -120 ≤ x.trim.toInt ∧ x.trim.toInt ≤ 120

/-- The half with the values as they were sent. -/
def halfValue (x : RawHalf) : Half := ⟨x.distance.toNat, x.trim.toInt, decide (x.polarity = 1)⟩

theorem parseHalf_inRange {x : RawHalf} (h : HalfInRange x) : parseHalf x = some (halfValue x) := by
  obtain ⟨hp, hd, ht⟩ := h
  simp only [parseHalf, boolOf_of_lt (Nat.lt_succ_of_le hp)]
  exact if_pos ⟨hd, ht⟩

theorem parseHalf_outOfRange {x : RawHalf} (h : ¬HalfInRange x) : parseHalf x = none := by
  unfold parseHalf
  rcases Nat.lt_or_ge x.polarity.toNat 2 with hp | hp
  · rw [boolOf_of_lt hp]
    exact if_neg fun ⟨hd, ht⟩ => h ⟨Nat.le_of_lt_succ hp, hd, ht⟩
  · rw [boolOf_of_le hp]

theorem parseHalves_inRange {half : Fin 12 → RawHalf} (h : ∀ i, HalfInRange (half i)) :
    parseHalves half = some (Table.tabulate fun i => halfValue (half i)) := by
  have hall : (allSlots.filterMap fun i => parseHalf (half i)) = List.ofFn fun i => halfValue (half i) := by
    rw [funext fun i => parseHalf_inRange (h i), List.filterMap_eq_map']
    rfl
  unfold parseHalves
  simp only [hall]
  exact dif_pos List.length_ofFn

/-- One half with a value out of range refuses all twelve. -/
theorem parseHalves_outOfRange {half : Fin 12 → RawHalf} (h : ¬∀ i, HalfInRange (half i)) : parseHalves half = none := by
  obtain ⟨i, hi⟩ := Classical.not_forall.mp h
  refine dif_neg fun hlen => ?_
  have hsome := List.filterMap_length_eq_length.mp (hlen.trans (rfl : 12 = allSlots.length)) i (mem_allSlots i)
  rw [parseHalf_outOfRange hi] at hsome
  cases hsome

/-! ## The re-layout request (R33) -/

/-- A PLAYING MAIN at a re-layout request: the point is due and the route fades to it. -/
def Route.fadedForRelayout (x : Route) : Route :=
  { x with relayoutDue := true, state := .fadingOut, purpose := some .relayout, pending := none, reason := none }

theorem routeReport_unchanged (r : RouteId) (s : State) : routeReport r (s.route r) s = s := by
  simp only [routeReport, routeChanged, ne_eq, not_true_eq_false, decide_false, Bool.or_self, Bool.false_eq_true, if_false]

/-- The one ROUTE notice of an event that changes MAIN alone (R41). -/
theorem routeEvent_main {f : State → State} {s : State} (hz : (f s).zone = s.zone)
    (hm : routeChanged s.main (f s).main = true) :
    routeEvent f s = emit .route (0 :: routeBytes .main (f s).main) (f s) := by
  have hmain : routeReport .main s.main (f s) = emit .route (0 :: routeBytes .main (f s).main) (f s) := if_pos hm
  have hzone : s.zone = (emit .route (0 :: routeBytes .main (f s).main) (f s)).route .zone := by rw [emit_route]; exact hz.symm
  rw [routeEvent, hmain, hzone, routeReport_unchanged]

theorem relayoutRequest_playing {s : State} (h : s.main.state = .playing) :
    relayoutRequest s
      = emit .route (0 :: routeBytes .main s.main.fadedForRelayout) (s.onRoute .main fun _ => s.main.fadedForRelayout) := by
  rw [relayoutRequest, if_pos h, routeEvent_main rfl]
  · rfl
  · simp [routeChanged, enterFade, State.onRoute, h]

theorem relayoutRequest_notPlaying {s : State} (h : s.main.state ≠ .playing) :
    relayoutRequest s = s.onRoute .main fun x => { x with relayoutDue := true } := if_neg h

/-- The hush goes on while a route that plays the radio is PLAYING or FADING_OUT (R143). -/
theorem hushHeld_iff {s : State} : hushHeld s = true ↔
    ∃ r, tunerBound s r = true ∧ ((s.route r).state = .playing ∨ (s.route r).state = .fadingOut) := by
  have hall (r : RouteId) : r ∈ [RouteId.main, .zone] := by cases r <;> decide
  simp only [hushHeld, List.any_eq_true, hall, true_and, Bool.and_eq_true, Bool.or_eq_true, decide_eq_true_eq]

/-- A fade of MAIN makes no judgement due: a fading route holds the hush, and it is not SILENT. -/
theorem nothingDue_fadedForRelayout {s : State} (hn : s.nothingDue) :
    (s.onRoute .main fun _ => s.main.fadedForRelayout).nothingDue := by
  obtain ⟨hhush, hpower, -⟩ := hn
  refine ⟨fun ht => ?_, hpower, fun _ => rfl⟩
  obtain ⟨r, hbound, hstate⟩ := hushHeld_iff.mp (hhush ht)
  cases r with
  | main => exact hushHeld_iff.mpr ⟨.main, hbound, .inr rfl⟩
  | zone => exact hushHeld_iff.mpr ⟨.zone, hbound, hstate⟩

/-- A notice and an update of the gain unit do not meet. -/
theorem onGain_emit (f : Gain → Gain) (c : NoticeClass) (b : List Byte) (s : State) :
    (emit c b s).onGain f = emit c b (s.onGain f) := by
  simp only [emit, onGain_link, apply_ite (State.onGain · f)]
  rfl

/-- A request whose handling queued nothing, and after which no judgement is due, queues its reply. -/
theorem serveRequest_noNotice {s t : State} {r : Request} {hd : Request → State → Answer} {st : Status}
    {body : State → List Byte} (h : hd r s.taken = (t, st, body)) (hn : t.nothingDue)
    (ho : t.link.outbound = s.link.outbound) :
    serveRequest hd r s.taken = t.enqueue ⟨.reply, r.kind + 0x80, r.tag, replyBody st (body t)⟩ := by
  rw [serveRequest_quiet (by rw [h]; exact hn) (by rw [h]; exact ho), h]

/-- The reply of a request whose handling created one notice stands before it (R181). -/
theorem serveRequest_notice {s t : State} {r : Request} {hd : Request → State → Answer} {c : NoticeClass} {b : List Byte}
    {st : Status} {body : State → List Byte} (h : hd r s.taken = (emit c b t, st, body)) (hn : t.nothingDue)
    (ho : t.link.outbound = s.link.outbound) :
    serveRequest hd r s.taken
      = emit c b (t.enqueue ⟨.reply, r.kind + 0x80, r.tag, replyBody st (body (emit c b t))⟩) := by
  have hlen : s.taken.link.outbound.length = s.link.outbound.length := rfl
  have hsettle {f : Frame} : settle (emit c b (t.enqueue f)) = emit c b (t.enqueue f) :=
    settle_of_nothingDue (nothingDue_emit (s := t.enqueue f) hn)
  rw [serveRequest, h, hushCheck_of_nothingDue (nothingDue_emit hn), hlen,
    insertReply_emit _ _ _ _ (Nat.le_of_eq (congrArg List.length ho.symm)) rfl, insertReply_end _ ho, hsettle]

/-! ## PROFILE_WRITE (R135) -/

/-- The body of PROFILE_WRITE (R195). -/
def profileWriteBody (raw : Fin 12 → RawSlot) (lfe : Byte) (half : Fin 12 → RawHalf) : List Byte :=
  ((List.ofFn raw).map RawSlot.bytes).flatten ++ [lfe] ++ ((List.ofFn half).map RawHalf.bytes).flatten

/-- The requested layout and the pending halves, as every reply to PROFILE_WRITE shows them. -/
def profileShown (s : State) : List Byte := profileBytes s.render.requested (·.pending) s.gain

section
variable {s : State} {kind tag lfe : Byte} {raw : Fin 12 → RawSlot} {half : Fin 12 → RawHalf}

theorem slotRecords_length (raw : Fin 12 → RawSlot) : ((List.ofFn raw).map RawSlot.bytes).flatten.length = 48 := by
  rw [length_records (m := 4) fun _ => rfl, List.length_ofFn]

theorem halfRecords_length (half : Fin 12 → RawHalf) : ((List.ofFn half).map RawHalf.bytes).flatten.length = 60 := by
  rw [length_records (m := 5) fun _ => rfl, List.length_ofFn]

theorem profileWriteBody_length : (profileWriteBody raw lfe half).length = 109 := by
  simp only [profileWriteBody, List.length_append, slotRecords_length, halfRecords_length, List.length_singleton]

theorem profileWriteBody_slots : rawSlotAt (profileWriteBody raw lfe half) 0 = raw := by
  rw [profileWriteBody, List.append_assoc]; exact rawSlotAt_records raw _

theorem profileWriteBody_lfe : byteAt (profileWriteBody raw lfe half) 48 = lfe := by
  rw [profileWriteBody, List.append_assoc]; exact byteAt_append_right _ 0 (slotRecords_length raw)

theorem profileWriteBody_halves : rawHalfAt (profileWriteBody raw lfe half) 49 = half :=
  rawHalfAt_records (by rw [List.length_append, slotRecords_length]; rfl) half

theorem exec_profileWrite (h : s.serves tag) :
    exec (.profileWrite tag (List.ofFn raw) lfe (List.ofFn half)) s
      = .next (serveRequest onProfileWrite ⟨0x44, tag, profileWriteBody raw lfe half⟩ s.taken) :=
  congrArg _ (served_profileWrite h profileWriteBody_length)

theorem onProfileWrite_busy (hr : s.measure.run ≠ none) :
    onProfileWrite ⟨kind, tag, profileWriteBody raw lfe half⟩ s = answer .busy profileShown s := if_pos hr

theorem onProfileWrite_badValue (hr : s.measure.run = none)
    (h : parseLayout raw lfe = none ∨ ¬∀ i, HalfInRange (half i)) :
    onProfileWrite ⟨kind, tag, profileWriteBody raw lfe half⟩ s = answer .badValue profileShown s := by
  simp only [onProfileWrite, profileWriteBody_slots, profileWriteBody_lfe, profileWriteBody_halves]
  rw [if_neg (not_not_intro hr)]
  rcases h with hl | hh
  · rw [hl]; rfl
  · rw [parseHalves_outOfRange hh]
    cases parseLayout raw lfe <;> rfl

theorem onProfileWrite_stores {l : Layout} {replaced : Bool} (hr : s.measure.run = none)
    (hl : parseLayout raw lfe = some (l, replaced)) (hh : ∀ i, HalfInRange (half i)) :
    onProfileWrite ⟨kind, tag, profileWriteBody raw lfe half⟩ s
      = (stageProfile (Table.tabulate fun i => halfValue (half i)) (storeLayout l s), clampStatus replaced, profileShown) := by
  simp only [onProfileWrite, profileWriteBody_slots, profileWriteBody_lfe, profileWriteBody_halves, hl,
    parseHalves_inRange hh]
  exact if_neg (not_not_intro hr)

end

theorem storeLayout_same {l : Layout} {s : State} (h : l = s.render.inForce ∧ l = s.render.requested) :
    storeLayout l s = s.onRender fun r => { r with requested := l } :=
  if_neg fun hd => hd.elim (· h.1) (· h.2)

theorem storeLayout_playing {l : Layout} {s : State} (h : ¬(l = s.render.inForce ∧ l = s.render.requested))
    (hp : s.main.state = .playing) :
    storeLayout l s = emit .route (0 :: routeBytes .main s.main.fadedForRelayout)
      ((s.onRender fun r => { r with requested := l }).onRoute .main fun _ => s.main.fadedForRelayout) :=
  (if_pos (Classical.not_and_iff_not_or_not.mp h)).trans
    (relayoutRequest_playing (s := s.onRender fun r => { r with requested := l }) hp)

theorem storeLayout_notPlaying {l : Layout} {s : State} (h : ¬(l = s.render.inForce ∧ l = s.render.requested))
    (hp : s.main.state ≠ .playing) :
    storeLayout l s
      = (s.onRender fun r => { r with requested := l }).onRoute .main fun x => { x with relayoutDue := true } :=
  (if_pos (Classical.not_and_iff_not_or_not.mp h)).trans
    (relayoutRequest_notPlaying (s := s.onRender fun r => { r with requested := l }) hp)

/-- The twelve halves of a profile in the pending halves, with every load mark set. -/
theorem stageProfile_tabulate (half : Fin 12 → Half) (s : State) :
    stageProfile (Table.tabulate half) s = s.onGain fun g =>
      { g with channels := g.channels.mapIdx fun i c => { c with pending := half i, marked := true } } := by
  simp only [stageProfile, Table.get_tabulate]

/-! ## MEASURE_SET (R137) -/

theorem exec_measureSet {s : State} {tag : Byte} (latency correction : Word16) (h : s.serves tag) :
    exec (.measureSet tag latency correction) s
      = .next (serveRequest onMeasureSet ⟨0x45, tag, le16 latency ++ le16 correction⟩ s.taken) :=
  congrArg _ (served_measureSet h rfl)

/-- A reply is CLAMPED when one of two values differs from the one sent. -/
theorem clampStatus_ne_or_ne {α β : Type} [DecidableEq α] [DecidableEq β] (a a' : α) (b b' : β) :
    clampStatus (decide (a ≠ a') || decide (b ≠ b')) = if a = a' ∧ b = b' then .ok else .clamped := by
  by_cases ha : a = a' <;> by_cases hb : b = b' <;> simp [clampStatus, ha, hb]

theorem onMeasureSet_eq (kind tag : Byte) (latency correction : Word16) (s : State) :
    onMeasureSet ⟨kind, tag, le16 latency ++ le16 correction⟩ s
      = (s.onMeasure fun m => { m with latency := min latency.toNat 480, correction := max (-100) (min 100 correction.toInt) },
          if min latency.toNat 480 = latency.toNat ∧ max (-100) (min 100 correction.toInt) = correction.toInt then .ok
          else .clamped,
          measureSettings) := by
  have hl : wordAt (le16 latency ++ le16 correction) 0 = latency := high_append_low _
  have hc : wordAt (le16 latency ++ le16 correction) 2 = correction := high_append_low _
  simp only [onMeasureSet, hl, hc, clampInt_eq (by decide : (-100 : Int) ≤ 100), clampStatus_ne_or_ne]

/-- Settles O48: PROFILE_WRITE from its handler's cases, with the notice of a PLAYING MAIN after the reply, MEASURE_SET from the
two clamps. -/
theorem profileWriteAndMeasureSet : Obligations.ProfileWriteAndMeasureSet := by
  intro s tag h
  have ⟨_, _, _, _, hn⟩ := h
  refine ⟨fun slots lfe channels raw half hslots hchannels => ?_, fun latency correction => ?_⟩
  · subst hslots hchannels
    intro shown inRange run
    have hrun : run = .next (serveRequest onProfileWrite ⟨0x44, tag, profileWriteBody raw lfe half⟩ s.taken) :=
      exec_profileWrite h
    refine ⟨fun hr => ?_, fun hr hbad => ?_, fun l replaced hr hl hin => ?_⟩
    · rw [hrun, serveRequest_answer hn (onProfileWrite_busy hr)]; rfl
    · rw [hrun, serveRequest_answer hn (onProfileWrite_badValue hr hbad)]; rfl
    · intro u status y
      have hstores := onProfileWrite_stores (s := s.taken) (kind := 0x44) (tag := tag) hr hl hin
      rw [hrun]
      by_cases hsame : l = s.render.inForce ∧ l = s.render.requested
      · rw [storeLayout_same (s := s.taken) hsame, stageProfile_tabulate] at hstores
        rw [if_pos hsame, serveRequest_noNotice hstores hn rfl]
        rfl
      rw [if_neg hsame]
      by_cases hplay : s.main.state = .playing
      · rw [storeLayout_playing (s := s.taken) hsame hplay, stageProfile_tabulate, onGain_emit] at hstores
        have hfade := nothingDue_fadedForRelayout hn
        rw [if_pos hplay, serveRequest_notice hstores hfade rfl]
        simp only [profileShown, emit_render, emit_gain]
        rfl
      · rw [storeLayout_notPlaying (s := s.taken) hsame hplay, stageProfile_tabulate] at hstores
        rw [if_neg hplay, serveRequest_noNotice hstores hn rfl]
        rfl
  · rw [exec_measureSet _ _ h, serveRequest_noNotice (onMeasureSet_eq 0x45 tag latency correction s.taken) hn rfl]
    rfl

end Sys2Proof.Machine
end

section
/-! PROOFS. Chapter 9, control link and operating states: IDENT (R190). -/

namespace Sys2Proof.Machine

/-- The fields of the IDENT reply as they are sent (R190, R196), little-endian: vendor code 0x4C4B, IMBARO, part number 1260 =
0x04EC, revision, and the five capability counts. -/
def identBytes : List Byte := [0x4B, 0x4C, 0x49, 0x4D, 0x42, 0x41, 0x52, 0x4F, 0xEC, 0x04, 3, 10, 12, 12, 6, 30]

theorem exec_ident {s : State} {tag : Byte} (h : s.serves tag) :
    exec (.ident tag) s = .next (serveRequest onIdent ⟨0x01, tag, []⟩ s.taken) :=
  congrArg _ (served_ident h rfl)

/-- Whatever the state, IDENT shows the same bytes and leaves the state as it is. -/
theorem onIdent_eq (r : Request) (s : State) : onIdent r s = answer .ok (fun _ => identBytes) s := rfl

/-- Settles O10: the handler answers the constant fields without a change, so the reply is all that the request queues. -/
theorem identNamesThePart : Obligations.IdentNamesThePart := by
  intro s tag h
  have ⟨_, _, _, _, hn⟩ := h
  rw [exec_ident h, serveRequest_answer hn (onIdent_eq _ _), identBytes]

end Sys2Proof.Machine
end
